-- ==== Sys2Proof/Word.lean ====
section
/-! DEFINITION. The widths of spec/00_scope.md R8: a byte is 8 bits, a `u16` is a half, a host word is 32 bits. -/

namespace Sys2Proof

/-- `u8` (R8). -/
abbrev Byte := BitVec 8

/-- `u16` (R8). -/
abbrev Half := BitVec 16

/-- `u32`, one host word (R8, R42). -/
abbrev Word := BitVec 32

end Sys2Proof
end

