-- ==== Sys2Proof/Config.lean ====
section
/-! DEFINITION. The implementation parameters of spec/00_scope.md R6. A parameter the spec fixes is a constant; the four
that an implementation chooses are the fields of `Config`, which State carries as an argument of the machine and no step
writes. -/

namespace Sys2Proof

/-- `CRC_PRESET` (R6, R100; spec/90_conflicts.md C1): `modbus` is the default. -/
inductive CrcPreset where
  | modbus
  | ccittFalse
  deriving DecidableEq, Repr

/-- The parameters the spec leaves to the implementation (R6): "`OPEN` means the model takes the value as an argument". -/
structure Config where
  /-- `CRC_PRESET`, decision D7. -/
  crcPreset : CrcPreset
  /-- `RESP_TIMEOUT_TICKS`, OPEN, 1..65535 (decision D13). -/
  respTimeoutTicks : BitVec 16
  /-- `BYTE_TIMEOUT_TICKS`, OPEN, 1..65535 (decision D13). -/
  byteTimeoutTicks : BitVec 16
  /-- `RXQ_DEPTH`, OPEN, at least 8 (decision D25). -/
  rxqDepth : Nat
  deriving DecidableEq, Repr

/-- The bounds R6 sets: every tick parameter lies in 1..65535, and `RXQ_DEPTH` is at least 8. -/
def Config.wf (c : Config) : Bool :=
  c.respTimeoutTicks != 0 && c.byteTimeoutTicks != 0 && decide (8 ≤ c.rxqDepth)

/-- The parameters `State.reset` is given: the default `CRC_PRESET` of R6, the timeouts R6 suggests, and the queue depth
of spec/95_test_vectors.md section 0. DESIGN CHOICE (log 3), unsafe for a claim about `State.reset` alone: the spec leaves
three of them OPEN, and every other claim holds for every `Config`. -/
def Config.suggested : Config :=
  { crcPreset := .modbus, respTimeoutTicks := 500, byteTimeoutTicks := 500, rxqDepth := 16 }

/-- `MAX_ATTEMPTS_AXIS` (R6), in the width of `ATT` (R31). -/
def maxAttemptsAxis : BitVec 3 := 5

/-- `MAX_ATTEMPTS_RELAY` (R6): a relay command makes one attempt. -/
def maxAttemptsRelay : BitVec 3 := 1

/-- `BACKOFF_TICKS` (R6). -/
def backoffTicks : BitVec 16 := 150

/-- `SETTLE_TICKS` (R6). -/
def settleTicks : BitVec 16 := 250

/-- `RA_REG` (R6): 61451. -/
def raReg : Half := 0xF00B

/-- `DEC_REG` (R6). -/
def decReg : Half := 0x0001

/-- `DEC_QTY` (R6). -/
def decQty : Half := 2

/-- `RELAY_FRAME_LEN` (R6), in the width of `FLEN` (R26). -/
def relayFrameLen : BitVec 4 := 8

/-- `SLAVE_MIN` (R6). -/
def slaveMin : Byte := 1

/-- `SLAVE_MAX` (R6). -/
def slaveMax : Byte := 247

/-- `CHANNEL_MAX` (R6). -/
def channelMax : BitVec 2 := 2

end Sys2Proof
end

