-- ==== Sys2Proof/Machine/Bits.lean ====
section
/-! DEFINITION. Bit fields, byte order and digits: spec/00_scope.md R8 and R9, spec/20_memory.md R39 and R40,
spec/44_relay_commands.md R118. -/

namespace Sys2Proof.Machine

/-- `hi8(v) = v[15:8]` (R8). -/
def hi8 (v : Half) : Byte := v.extractLsb' 8 8

/-- `lo8(v) = v[7:0]` (R8). -/
def lo8 (v : Half) : Byte := v.extractLsb' 0 8

/-- The two bytes of a 16-bit Modbus field, most significant first (R39). -/
def fieldBytes (v : Half) : List Byte := [hi8 v, lo8 v]

/-- The two bytes of a CRC, least significant first (R40). -/
def crcBytes (c : Half) : List Byte := [lo8 c, hi8 c]

/-- `hexU(n)`, the uppercase hexadecimal digit of a 4-bit value (R118). -/
def hexU (n : BitVec 4) : Byte :=
  if n ≤ 9 then 0x30 + n.setWidth 8 else 0x41 + (n.setWidth 8 - 10)

/-- Whether a byte is one of 0x30..0x39 or 0x41..0x46, the bytes `hexU` can give (R24). -/
def isHexU (b : Byte) : Bool :=
  (decide (0x30 ≤ b) && decide (b ≤ 0x39)) || (decide (0x41 ≤ b) && decide (b ≤ 0x46))

/-- The ASCII digit of a channel, `0x30 + ch` (R119). -/
def channelDigit (ch : BitVec 2) : Byte := 0x30 + ch.setWidth 8

/-- The ASCII digit of a relay state, `0x30 + st` (R119). -/
def stateDigit (st : Bool) : Byte := if st then 0x31 else 0x30

/-- The index of the lowest bit of `w` that is 1 (R61). -/
def lowestSetBit (w : Word) : Option Nat := (List.range 32).find? (fun i => w.getLsbD i)

/-- The low `8 * n` bits of `w` as bytes, bits 7..0 first. -/
def bytesOfNat (n w : Nat) : List Byte := (List.range n).map (fun k => BitVec.ofNat 8 (w / 2 ^ (8 * k)))

/-- The first index, counted from `start`, at which two byte sequences differ (R109's "lowest such i"). -/
def firstDiff (start : Nat) : List Byte → List Byte → Option Nat
  | a :: as, b :: bs => if a = b then firstDiff (start + 1) as bs else some start
  | _, _ => none

end Sys2Proof.Machine
end

