-- ==== Sys2Proof/Machine/Crc.lean ====
section
/-! DEFINITION. The CRC engine of spec/42_modbus_framer.md R100, under both values of `CRC_PRESET`. -/

namespace Sys2Proof.Machine

/-- The register of R100 before the first byte, under both presets. -/
def crcInit : Half := 0xFFFF

/-- How a byte enters the register: R100's first line of the byte loop. -/
def crcEnter (p : CrcPreset) (c : Half) (b : Byte) : Half :=
  match p with
  | .modbus => c ^^^ b.setWidth 16
  | .ccittFalse => c ^^^ (b.setWidth 16 <<< 8)

/-- One of R100's eight shifts. -/
def crcShift (p : CrcPreset) (c : Half) : Half :=
  match p with
  | .modbus => if c.getLsbD 0 then (c >>> 1) ^^^ 0xA001 else c >>> 1
  | .ccittFalse => if c.getLsbD 15 then (c <<< 1) ^^^ 0x1021 else c <<< 1

/-- R100's `repeat n times`. -/
def crcShifts (p : CrcPreset) : Nat → Half → Half
  | 0, c => c
  | n + 1, c => crcShifts p n (crcShift p c)

/-- The register after one more byte. -/
def crcByte (p : CrcPreset) (c : Half) (b : Byte) : Half := crcShifts p 8 (crcEnter p c b)

/-- `crc16(s)` (R100). -/
def crc16 (p : CrcPreset) (s : List Byte) : Half := s.foldl (crcByte p) crcInit

end Sys2Proof.Machine
end

