-- ==== Sys2Proof/Machine/Frames.lean ====
section
/-! DEFINITION. The bytes of the three frames the block sends: spec/30_encoding.md R65, R66 and R71. -/

namespace Sys2Proof.Machine

/-- Function code of "write single holding register" (R64). -/
def fcWsr : Byte := 0x06

/-- Function code of "write multiple holding registers" (R64). -/
def fcWmr : Byte := 0x10

/-- Function byte of an exception response, `FC | 0x80` (R64). -/
def exceptionFc (fc : Byte) : Byte := fc ||| 0x80

/-- Bytes 0..5 of a WSR request (R65). -/
def wsrBody (slave : Byte) (v : Half) : List Byte :=
  [slave, fcWsr] ++ fieldBytes raReg ++ fieldBytes v

/-- Bytes 0..10 of a WMR request: direction, then speed (R66). -/
def wmrBody (slave : Byte) (d v : Half) : List Byte :=
  [slave, fcWmr] ++ fieldBytes decReg ++ fieldBytes decQty ++ [lo8 (2 * decQty)] ++ fieldBytes d ++ fieldBytes v

/-- The eight bytes of a WSR frame with a given CRC (R65). -/
def wsrBytes (slave : Byte) (v crc : Half) : List Byte := wsrBody slave v ++ crcBytes crc

/-- The thirteen bytes of a WMR frame with a given CRC (R66). -/
def wmrBytes (slave : Byte) (d v crc : Half) : List Byte := wmrBody slave d v ++ crcBytes crc

/-- The eight bytes of a relay frame (R71). -/
def adamBytes (hexHi hexLo : Byte) (ch : BitVec 2) (st : Bool) : List Byte :=
  [0x23, hexHi, hexLo, 0x31, channelDigit ch, 0x30, stateDigit st, 0x0D]

end Sys2Proof.Machine
end

