-- ==== Sys2Proof/Syntax.lean ====
section
/-! DEFINITION. The instructions: one constructor for each row of spec/opcode_table.json. -/

namespace Sys2Proof

/-- The sixteen commands of the command port (spec/30_encoding.md R59), the read of the read port
(spec/40_command_cycle.md R85) and the three frames the block puts on the wire (R65, R66, R71). Operand widths are those
of R57 and R58; operand order is the field order of R57. -/
inductive Instr where
  /-- LINK_OPEN, format LK (R91). -/
  | linkOpen (parity : BitVec 2) (dataBits : BitVec 4) (stopBits : BitVec 2) (baud : Word)
  /-- LINK_CLOSE, format N (R94). -/
  | linkClose
  /-- SET_DEBUG, format FL (R95). -/
  | setDebug (en : Bool)
  /-- SET_RECOVERY, format FL (R97). -/
  | setRecovery (en : Bool)
  /-- CFG_AXIS_ADDR, format AX (R98). -/
  | cfgAxisAddr (ra dec : Byte)
  /-- CFG_RELAY, format RC (R99). -/
  | cfgRelay (moduleAddr : Byte) (chPower chDMinus chDPlus : BitVec 2)
  /-- SET_RA_SPEED, format SR (R115). -/
  | setRaSpeed (speed : Half)
  /-- SET_DEC_SPEED, format SD (R116). -/
  | setDecSpeed (speed dir : Half)
  /-- STOP_DEC, format N (R117). -/
  | stopDec
  /-- SET_RELAY, format RL (R121). -/
  | setRelay (ch : BitVec 2) (st : Bool)
  /-- POWER_ON, format N (R126). -/
  | powerOn
  /-- POWER_OFF, format N (R126). -/
  | powerOff
  /-- DPLUS_ON, format N (R126). -/
  | dplusOn
  /-- DPLUS_OFF, format N (R126). -/
  | dplusOff
  /-- DMINUS_ON, format N (R126). -/
  | dminusOn
  /-- DMINUS_OFF, format N (R126). -/
  | dminusOff
  /-- READ, the read port (R85). -/
  | read (idx : Byte)
  /-- WSR_FRAME, "write single holding register" (R65): `a`, `v` and `c` of the table's row. -/
  | wsrFrame (slave : Byte) (value : Half) (crc : Half)
  /-- WMR_FRAME, "write multiple holding registers" (R66): `a`, `d`, `v` and `c` of the table's row. -/
  | wmrFrame (slave : Byte) (dir value : Half) (crc : Half)
  /-- ADAM_FRAME, the ASCII relay frame (R71): `h`, `l`, `k` and `s` of the table's row. -/
  | adamFrame (hexHi hexLo : Byte) (ch : BitVec 2) (st : Bool)
  deriving DecidableEq, Repr

/-- The pseudo-instruction GET_LAST_ERROR of R63: a read of index 1. -/
def Instr.getLastError : Instr := .read 1

/-- The pseudo-instruction POLL of R63: a read of index 0. -/
def Instr.poll : Instr := .read 0

/-- A number as R63 writes it: decimal. -/
def Instr.asmNum (name : String) {n : Nat} (v : BitVec n) : String := name ++ "=" ++ toString v.toNat

/-- `en` and `st` as R63 writes them. -/
def Instr.asmFlag (name : String) (b : Bool) : String := name ++ "=" ++ (if b then "on" else "off")

/-- `parity` as R63 writes it; the illegal code 3 has no name and stands as a number. -/
def Instr.asmParity (p : BitVec 2) : String :=
  if p = 0 then "parity=none" else if p = 1 then "parity=even" else if p = 2 then "parity=odd" else "parity=3"

/-- The assembler text of R63; the wire frames are no commands and have none. -/
def Instr.asm : Instr → Option String
  | .linkOpen p d st b =>
    some ("LINK_OPEN " ++ asmParity p ++ ", " ++ asmNum "data" d ++ ", " ++ asmNum "stop" st ++ ", " ++ asmNum "baud" b)
  | .linkClose => some "LINK_CLOSE"
  | .setDebug en => some ("SET_DEBUG " ++ asmFlag "en" en)
  | .setRecovery en => some ("SET_RECOVERY " ++ asmFlag "en" en)
  | .cfgAxisAddr ra dec => some ("CFG_AXIS_ADDR " ++ asmNum "ra" ra ++ ", " ++ asmNum "dec" dec)
  | .cfgRelay m cp cm cd =>
    some ("CFG_RELAY " ++ asmNum "module" m ++ ", " ++ asmNum "ch_power" cp ++ ", " ++ asmNum "ch_dminus" cm ++ ", " ++
      asmNum "ch_dplus" cd)
  | .setRaSpeed v => some ("SET_RA_SPEED " ++ asmNum "speed" v)
  | .setDecSpeed v d => some ("SET_DEC_SPEED " ++ asmNum "speed" v ++ ", " ++ asmNum "dir" d)
  | .stopDec => some "STOP_DEC"
  | .setRelay ch st => some ("SET_RELAY " ++ asmNum "ch" ch ++ ", " ++ asmFlag "st" st)
  | .powerOn => some "POWER_ON"
  | .powerOff => some "POWER_OFF"
  | .dplusOn => some "DPLUS_ON"
  | .dplusOff => some "DPLUS_OFF"
  | .dminusOn => some "DMINUS_ON"
  | .dminusOff => some "DMINUS_OFF"
  | .read idx => some ("READ " ++ toString idx.toNat)
  | .wsrFrame _ _ _ => none
  | .wmrFrame _ _ _ _ => none
  | .adamFrame _ _ _ _ => none

end Sys2Proof
end

