-- ==== Sys2Proof/WellFormed.lean ====
section
/-! DEFINITION. Which terms of `Instr` stand for something the block can be given or can send. Every operand of a command
or of a read fills its field exactly (spec/30_encoding.md R57, R58), so a command is always well formed: an operand whose
VALUE is illegal is a command too, one that fails (R134). A frame has bytes that are functions of others (R65, R66, R71). -/

namespace Sys2Proof

/-- A slave address the block sends: `SLAVE_MIN` to `SLAVE_MAX` (R38). -/
def slaveLegal (a : Byte) : Bool := decide (slaveMin ≤ a) && decide (a ≤ slaveMax)

/-- Well-formed instructions, under a `CRC_PRESET`: a frame's slave address is one that is sent (R38), its CRC is that of
the bytes before it (R65, R66), a relay frame's address is two uppercase hexadecimal digits and its channel at most
`CHANNEL_MAX` (R71). -/
def Instr.wf (p : CrcPreset) : Instr → Bool
  | .linkOpen _ _ _ _ => true
  | .linkClose => true
  | .setDebug _ => true
  | .setRecovery _ => true
  | .cfgAxisAddr _ _ => true
  | .cfgRelay _ _ _ _ => true
  | .setRaSpeed _ => true
  | .setDecSpeed _ _ => true
  | .stopDec => true
  | .setRelay _ _ => true
  | .powerOn => true
  | .powerOff => true
  | .dplusOn => true
  | .dplusOff => true
  | .dminusOn => true
  | .dminusOff => true
  | .read _ => true
  | .wsrFrame a v c => slaveLegal a && c == Machine.crc16 p (Machine.wsrBody a v)
  | .wmrFrame a d v c => slaveLegal a && c == Machine.crc16 p (Machine.wmrBody a d v)
  | .adamFrame h l k _ => Machine.isHexU h && Machine.isHexU l && decide (k ≤ channelMax)

end Sys2Proof
end

