-- ==== Sys2Proof/Decode.lean ====
section
/-! DEFINITION. The decoder and the encoder of spec/30_encoding.md. An instruction reaches the block in one of three ways:
two words on the command port (R56), an index on the read port (R85), or the bytes of a frame in its frame buffer (R65,
R66, R71). -/

namespace Sys2Proof

/-- Where an instruction stands, and its bits there. -/
inductive Encoded where
  /-- The two words of a command (R56). -/
  | command (w0 w1 : Word)
  /-- The index on the read port (R85). -/
  | readPort (idx : Byte)
  /-- The bytes of a frame, first on the wire first (R9). -/
  | wire (bytes : List Byte)
  deriving DecidableEq, Repr

/-- What the decoder answers. -/
inductive Decoded where
  /-- The instruction. -/
  | instr (i : Instr)
  /-- R60: the opcode is in no row of R59. -/
  | reservedOpcode (opc : Byte)
  /-- R61: a reserved bit of `W0` is 1; `bit` is the lowest such. -/
  | reservedField (bit : Nat)
  /-- The bytes are no frame of R65, R66 or R71. -/
  | notAFrame
  deriving DecidableEq, Repr

/-- The instruction read, if one is. -/
def Decoded.toOption : Decoded → Option Instr
  | .instr i => some i
  | .reservedOpcode _ => none
  | .reservedField _ => none
  | .notAFrame => none

/-- The rows of R59. -/
inductive Opcode where
  | linkOpen | linkClose | setDebug | setRecovery | cfgAxisAddr | cfgRelay
  | setRaSpeed | setDecSpeed | stopDec
  | setRelay | powerOn | powerOff | dplusOn | dplusOff | dminusOn | dminusOff
  deriving DecidableEq, Repr

/-- The command formats of R57. -/
inductive Format where
  | n | fl | lk | ax | rc | sr | sd | rl
  deriving DecidableEq, Repr

/-- The column "mnemonic" of R59, by opcode; every other opcode is reserved (R60). -/
def opcodeOf? (opc : Byte) : Option Opcode :=
  match opc.toNat with
  | 0x01 => some .linkOpen
  | 0x02 => some .linkClose
  | 0x03 => some .setDebug
  | 0x04 => some .setRecovery
  | 0x05 => some .cfgAxisAddr
  | 0x06 => some .cfgRelay
  | 0x10 => some .setRaSpeed
  | 0x11 => some .setDecSpeed
  | 0x12 => some .stopDec
  | 0x20 => some .setRelay
  | 0x21 => some .powerOn
  | 0x22 => some .powerOff
  | 0x23 => some .dplusOn
  | 0x24 => some .dplusOff
  | 0x25 => some .dminusOn
  | 0x26 => some .dminusOff
  | _ => none

/-- The column "format" of R59. -/
def formatOf : Opcode → Format
  | .linkOpen => .lk
  | .linkClose => .n
  | .setDebug => .fl
  | .setRecovery => .fl
  | .cfgAxisAddr => .ax
  | .cfgRelay => .rc
  | .setRaSpeed => .sr
  | .setDecSpeed => .sd
  | .stopDec => .n
  | .setRelay => .rl
  | .powerOn => .n
  | .powerOff => .n
  | .dplusOn => .n
  | .dplusOff => .n
  | .dminusOn => .n
  | .dminusOff => .n

/-- The bits of `W0` marked "rsv" in R57. -/
def reservedMask : Format → Word
  | .n => 0xFFFFFF00
  | .fl => 0xFFFFFE00
  | .lk => 0xFFFC0C00
  | .ax => 0xFF000000
  | .rc => 0xFFC00000
  | .sr => 0xFFFFFF00
  | .sd => 0xFFFFFF00
  | .rl => 0xFFFFEC00

/-- The operands of R57 and R58, pulled out of the two words. -/
def instrOf (o : Opcode) (w0 w1 : Word) : Instr :=
  match o with
  | .linkOpen => .linkOpen (w0.extractLsb' 8 2) (w0.extractLsb' 12 4) (w0.extractLsb' 16 2) w1
  | .linkClose => .linkClose
  | .setDebug => .setDebug (w0.getLsbD 8)
  | .setRecovery => .setRecovery (w0.getLsbD 8)
  | .cfgAxisAddr => .cfgAxisAddr (w0.extractLsb' 8 8) (w0.extractLsb' 16 8)
  | .cfgRelay =>
    .cfgRelay (w0.extractLsb' 8 8) (w0.extractLsb' 16 2) (w0.extractLsb' 18 2) (w0.extractLsb' 20 2)
  | .setRaSpeed => .setRaSpeed (w1.extractLsb' 0 16)
  | .setDecSpeed => .setDecSpeed (w1.extractLsb' 0 16) (w1.extractLsb' 16 16)
  | .stopDec => .stopDec
  | .setRelay => .setRelay (w0.extractLsb' 8 2) (w0.getLsbD 12)
  | .powerOn => .powerOn
  | .powerOff => .powerOff
  | .dplusOn => .dplusOn
  | .dplusOff => .dplusOff
  | .dminusOn => .dminusOn
  | .dminusOff => .dminusOff

/-- `W0[7:0]` (R56). -/
def opcodeField (w0 : Word) : Byte := w0.extractLsb' 0 8

/-- The lowest reserved bit of `W0` that is 1, under a format (R61). -/
def reservedBit (f : Format) (w0 : Word) : Option Nat := Machine.lowestSetBit (w0 &&& reservedMask f)

/-- A command's two words: the opcode check, then the reserved bits, then the operands (R60, R61, R82). -/
def decodeCommand (w0 w1 : Word) : Decoded :=
  match opcodeOf? (opcodeField w0) with
  | none => .reservedOpcode (opcodeField w0)
  | some o =>
    match reservedBit (formatOf o) w0 with
    | some n => .reservedField n
    | none => .instr (instrOf o w0 w1)

/-- Eight bytes on the wire: a WSR frame (R65) or a relay frame (R71), by the fixed bits of their table rows. Byte 3 tells
the two apart. -/
def decodeWire8 (b0 b1 b2 b3 b4 b5 b6 b7 : Byte) : Decoded :=
  if b1 = Machine.fcWsr ∧ b2 = Machine.hi8 raReg ∧ b3 = Machine.lo8 raReg then
    .instr (.wsrFrame b0 (b4 ++ b5 : BitVec 16) (b7 ++ b6 : BitVec 16))
  else if b0 = 0x23 ∧ b3 = 0x31 ∧ b4.extractLsb' 2 6 = 0b001100#6 ∧ b5 = 0x30 ∧ b6.extractLsb' 1 7 = 0b0011000#7 ∧
      b7 = 0x0D then
    .instr (.adamFrame b1 b2 (b4.extractLsb' 0 2) (b6.getLsbD 0))
  else .notAFrame

/-- A frame's bytes (R65, R66, R71); thirteen bytes are a WMR frame. -/
def decodeWire (bytes : List Byte) : Decoded :=
  match bytes with
  | [b0, b1, b2, b3, b4, b5, b6, b7] => decodeWire8 b0 b1 b2 b3 b4 b5 b6 b7
  | [b0, b1, b2, b3, b4, b5, b6, b7, b8, b9, b10, b11, b12] =>
    if b1 = Machine.fcWmr ∧ [b2, b3] = Machine.fieldBytes decReg ∧ [b4, b5] = Machine.fieldBytes decQty ∧
        b6 = Machine.lo8 (2 * decQty) then
      .instr (.wmrFrame b0 (b7 ++ b8 : BitVec 16) (b9 ++ b10 : BitVec 16) (b12 ++ b11 : BitVec 16))
    else .notAFrame
  | _ => .notAFrame

/-- The decoder. Every index of the read port is a READ (R33, R85). -/
def decode : Encoded → Decoded
  | .command w0 w1 => decodeCommand w0 w1
  | .readPort idx => .instr (.read idx)
  | .wire bytes => decodeWire bytes

/-- The bits of an instruction (R57, R59, R65, R66, R71, R85); ignored bits of `W1` are written 0. -/
def encode : Instr → Encoded
  | .linkOpen par db sb baud => .command (0#14 ++ sb ++ db ++ 0#2 ++ par ++ 0x01#8 : BitVec 32) baud
  | .linkClose => .command 0x00000002 0
  | .setDebug en => .command (0#23 ++ BitVec.ofBool en ++ 0x03#8 : BitVec 32) 0
  | .setRecovery en => .command (0#23 ++ BitVec.ofBool en ++ 0x04#8 : BitVec 32) 0
  | .cfgAxisAddr ra dec => .command (0#8 ++ dec ++ ra ++ 0x05#8 : BitVec 32) 0
  | .cfgRelay m cp cm cd => .command (0#10 ++ cd ++ cm ++ cp ++ m ++ 0x06#8 : BitVec 32) 0
  | .setRaSpeed v => .command 0x00000010 (0#16 ++ v : BitVec 32)
  | .setDecSpeed v d => .command 0x00000011 (d ++ v : BitVec 32)
  | .stopDec => .command 0x00000012 0
  | .setRelay ch st => .command (0#19 ++ BitVec.ofBool st ++ 0#2 ++ ch ++ 0x20#8 : BitVec 32) 0
  | .powerOn => .command 0x00000021 0
  | .powerOff => .command 0x00000022 0
  | .dplusOn => .command 0x00000023 0
  | .dplusOff => .command 0x00000024 0
  | .dminusOn => .command 0x00000025 0
  | .dminusOff => .command 0x00000026 0
  | .read idx => .readPort idx
  | .wsrFrame a v c => .wire (Machine.wsrBytes a v c)
  | .wmrFrame a d v c => .wire (Machine.wmrBytes a d v c)
  | .adamFrame h l k s => .wire (Machine.adamBytes h l k s)

/-- Where the bits of a table row stand (log 6). Bits 31..0 are `W0` and bits 63..32 `W1`; of a frame, bits 7..0 are byte
0. The command port comes first; a frame's fixed bytes set reserved bits of `W0`, so no frame is a command; what is neither
and fits one byte is an index of the read port; anything else is given to the command port, which refuses it by name. -/
def tableImage (nbits w : Nat) : Encoded :=
  let v := w % 2 ^ nbits
  let cmd := Encoded.command (BitVec.ofNat 32 v) (BitVec.ofNat 32 (v / 2 ^ 32))
  let wire8 := Encoded.wire (Machine.bytesOfNat 8 v)
  let wire13 := Encoded.wire (Machine.bytesOfNat 13 v)
  if nbits ≤ 64 && (decode cmd).toOption.isSome then cmd
  else if nbits ≤ 64 && (decode wire8).toOption.isSome then wire8
  else if nbits ≤ 104 && (decode wire13).toOption.isSome then wire13
  else if nbits ≤ 8 then .readPort (BitVec.ofNat 8 v)
  else cmd

/-- The instruction the decoder reads from an instruction whose bits are `w`, numbered as spec/opcode_table.json numbers
them. -/
def decodeTableWord (nbits w : Nat) : Option Instr := (decode (tableImage nbits w)).toOption

end Sys2Proof
end

