-- ==== Sys2Proof/Machine/State.lean ====
section
/-! DEFINITION. The state of spec/10_state.md, the events of spec/40_command_cycle.md R73 and R74, the reasons a step can
stop, and reset (spec/70_reset_and_hazards.md R146). -/

namespace Sys2Proof.Machine

/-- The sequencer state `SEQ` (R15). -/
inductive Seq where
  | idle | dispatch | openWait | mbTx | mbRx | mbBackoff | rlTx | rlSettle
  deriving DecidableEq, Repr

/-- The input events of R73. -/
inductive Event where
  | hostCmd (w0 w1 : Word)
  | hostRead (idx : Byte)
  | tick
  | txAck
  | txFail
  | rxByte (b : Byte) (err : Bool)
  | openOk
  | openFail (c : Byte)
  | internal
  | reset
  deriving DecidableEq, Repr

/-- The output events of R74. -/
inductive Output where
  | tx (b : Byte)
  | trace (frame : List Byte)
  | flush
  | reinit
  | openLink (baud fmt : Word)
  | close
  | done (ok : Bool)
  deriving DecidableEq, Repr

/-- An entry of the receive queue (R28). -/
structure RxEntry where
  byte : Byte
  err : Bool
  deriving DecidableEq, Repr

/-- Everything the spec gives the machine (10_state.md R13 to R32), and, at the end, the model's own fields. A register
the host reads as a word is held as its fields; the word is computed in Machine/Flags.lean and Machine/Operands.lean, so
that reserved bits read 0 (R33, log 10). -/
structure State where
  /-- `CMD_LATCH` (R14). -/
  cmdLatch : Word
  /-- `ARG_LATCH` (R14). -/
  argLatch : Word
  /-- `SEQ` (R15). -/
  seq : Seq
  /-- `IDX` (R16). -/
  idx : BitVec 4
  /-- `STATUS.DONE` (R17). -/
  done : Bool
  /-- `STATUS.OK` (R17). -/
  ok : Bool
  /-- `STATUS.LINK_OPEN` (R17). -/
  linkOpen : Bool
  /-- `STATUS.ATTEMPTS` (R17). -/
  attempts : BitVec 3
  /-- `STATUS.LAST_OPCODE` (R17). -/
  lastOpcode : Byte
  /-- `CTRL.DEBUG_EN` (R19). -/
  debugEn : Bool
  /-- `CTRL.RECOVERY_EN` (R19). -/
  recoveryEn : Bool
  /-- `LINK_BAUD` (R20). -/
  linkBaud : Word
  /-- `LINK_FMT` (R20). -/
  linkFmt : Word
  /-- `AXIS_ADDR.RA_ADDR` (R21). -/
  raAddr : Byte
  /-- `AXIS_ADDR.DEC_ADDR` (R21). -/
  decAddr : Byte
  /-- `ACTIVE_SLAVE` (R22). -/
  activeSlave : Byte
  /-- `RELAY_CFG.MODULE_ADDR` (R23). -/
  moduleAddr : Byte
  /-- `RELAY_CFG.CH_POWER` (R23). -/
  chPower : BitVec 2
  /-- `RELAY_CFG.CH_DMINUS` (R23). -/
  chDMinus : BitVec 2
  /-- `RELAY_CFG.CH_DPLUS` (R23). -/
  chDPlus : BitVec 2
  /-- `RELAY_CFG.RELAY_VALID` (R23). -/
  relayValid : Bool
  /-- `RELAY_HEX.HEX_HI` (R24). -/
  hexHi : Byte
  /-- `RELAY_HEX.HEX_LO` (R24). -/
  hexLo : Byte
  /-- `LAST_ERR` (R25). -/
  lastErr : Word
  /-- `FRAME` (R26). -/
  frame : Vector Byte 13
  /-- `FLEN` (R26). -/
  flen : BitVec 4
  /-- `FC` (R26). -/
  fc : Byte
  /-- `RXB` (R27). -/
  rxb : Vector Byte 8
  /-- `RXN` (R27). -/
  rxn : BitVec 4
  /-- `RXL` (R27). -/
  rxl : BitVec 4
  /-- `RXQ` (R28), oldest first. -/
  rxq : List RxEntry
  /-- `RXQ_OVF` (R28). -/
  rxqOvf : Bool
  /-- `TX_PEND` (R29). -/
  txPend : Bool
  /-- `CNT` (R30). -/
  cnt : BitVec 16
  /-- `ATT` (R31). -/
  att : BitVec 3
  /-- `PEND_BAUD` (R32). -/
  pendBaud : Word
  /-- `PEND_FMT` (R32). -/
  pendFmt : Word
  /-- The MODEL's own: the implementation parameters (R6); no step writes them (log 3). -/
  cfg : Config
  /-- The MODEL's own: the events the environment offers, in its order (R73, R75; log 1). -/
  inputs : List Event
  /-- The MODEL's own: every output event emitted so far, oldest first (R74; log 4). -/
  outputs : List Output
  /-- The MODEL's own: the wire trace of R74 so far (log 4). -/
  wire : List Byte
  /-- The MODEL's own: what the read port has returned so far, index and value, oldest first (R85; log 4). -/
  readLog : List (Byte × Word)
  deriving DecidableEq, Repr

/-- Why a step stops with a fault. The spec proves each out of reach (R16, R108), and Sys2Proof/Safety.lean states the
invariant that rules them out. -/
inductive Fault where
  /-- Raised by the transmission of a byte (R105, R122) where `IDX` is not below the frame's length: no rule reads such a
  byte (R26). Safe: the machine stops where the spec gives nothing (log 8). -/
  | frameIndexPastEnd
  /-- Raised by the receive step (R108) where `RXN` is not below 8: `RXB` has no such byte (R27). Safe (log 9). -/
  | responseIndexPastEnd
  /-- Raised by the response check (R109) where `RXL` is neither 5 nor 8, the only lengths R27 allows. Safe (log 9). -/
  | responseLengthIllegal
  deriving DecidableEq, Repr

/-- Why a step refuses an instruction. -/
inductive Refusal where
  /-- Raised by an arm of `exec` whose instruction has no meaning yet; no arm does so now. Safe: nothing is claimed. -/
  | notModelled (mnemonic : String)
  deriving DecidableEq, Repr

/-- The state after `Reset`, for given parameters (R146): every element at the reset value its rule gives. The `inputs`,
`outputs`, `wire` and `readLog` of a machine that has just been switched on are empty. -/
def State.resetWith (c : Config) : State :=
  { cmdLatch := 0, argLatch := 0, seq := .idle, idx := 0,
    done := false, ok := false, linkOpen := false, attempts := 0, lastOpcode := 0,
    debugEn := false, recoveryEn := false, linkBaud := 0, linkFmt := 0,
    raAddr := 0, decAddr := 0, activeSlave := 0,
    moduleAddr := 0, chPower := 0, chDMinus := 2, chDPlus := 1, relayValid := false, hexHi := 0x30, hexLo := 0x30,
    lastErr := 0,
    frame := Vector.replicate 13 0, flen := 0, fc := 0,
    rxb := Vector.replicate 8 0, rxn := 0, rxl := 0, rxq := [], rxqOvf := false,
    txPend := false, cnt := 0, att := 0, pendBaud := 0, pendFmt := 0,
    cfg := c, inputs := [], outputs := [], wire := [], readLog := [] }

/-- The machine right after reset (R146), with the parameters of `Config.suggested` (log 3). -/
def State.reset : State := State.resetWith Config.suggested

end Sys2Proof.Machine
end

