-- ==== Sys2Proof/Machine/Errors.lean ====
section
/-! DEFINITION. The error classes and causes of spec/60_exceptions.md R127 and R129, and the word they make in `LAST_ERR`
(spec/10_state.md R25). -/

namespace Sys2Proof.Machine

/-- The classes of R127 that are raised; class 0, "none", never is. -/
inductive ErrClass where
  | connection | transmission | shortWrite | usage
  deriving DecidableEq, Repr

/-- The column "CLASS" of R127. -/
def classCode : ErrClass → BitVec 3
  | .connection => 1
  | .transmission => 2
  | .shortWrite => 3
  | .usage => 4

/-- The causes of R129. -/
inductive Cause where
  | cfgInvalid | openFailed
  | txFault | timeout | rxError | badFunction | crcMismatch | badSlave | exception | badEcho
  | txShort
  | linkNotOpen | linkAlreadyOpen | addrUnconfigured | addrOutOfRange | relayUnconfigured | channelOutOfRange
  | reservedOpcode | reservedField
  deriving DecidableEq, Repr

/-- The column "CAUSE" of R129. -/
def causeCode : Cause → Byte
  | .cfgInvalid => 0x01
  | .openFailed => 0x02
  | .txFault => 0x10
  | .timeout => 0x11
  | .rxError => 0x12
  | .badFunction => 0x13
  | .crcMismatch => 0x14
  | .badSlave => 0x15
  | .exception => 0x16
  | .badEcho => 0x17
  | .txShort => 0x20
  | .linkNotOpen => 0x30
  | .linkAlreadyOpen => 0x31
  | .addrUnconfigured => 0x32
  | .addrOutOfRange => 0x33
  | .relayUnconfigured => 0x34
  | .channelOutOfRange => 0x35
  | .reservedOpcode => 0x36
  | .reservedField => 0x37

/-- The column "CLASS" of R129. -/
def causeClass : Cause → ErrClass
  | .cfgInvalid => .connection
  | .openFailed => .connection
  | .txFault => .transmission
  | .timeout => .transmission
  | .rxError => .transmission
  | .badFunction => .transmission
  | .crcMismatch => .transmission
  | .badSlave => .transmission
  | .exception => .transmission
  | .badEcho => .transmission
  | .txShort => .shortWrite
  | .linkNotOpen => .usage
  | .linkAlreadyOpen => .usage
  | .addrUnconfigured => .usage
  | .addrOutOfRange => .usage
  | .relayUnconfigured => .usage
  | .channelOutOfRange => .usage
  | .reservedOpcode => .usage
  | .reservedField => .usage

/-- `{OPCODE, DETAIL, CAUSE, 0b00000, CLASS}` (R25, R130). -/
def errWord (opcode detail cause : Byte) (cls : BitVec 3) : Word := (opcode ++ detail ++ cause ++ 0#5 ++ cls : BitVec 32)

end Sys2Proof.Machine
end

