-- ==== Sys2Proof/Machine/Flags.lean ====
section
/-! DEFINITION. The flags: the `STATUS` word with its computed `BUSY` (spec/10_state.md R17), the `CTRL` word (R19) and the
conditions of spec/40_command_cycle.md R73 and R77 under which an event can occur. The block has no arithmetic flags (R18). -/

namespace Sys2Proof.Machine

/-- `STATUS.BUSY`: 1 exactly when `SEQ` is not `IDLE` (R17). -/
def busy (s : State) : Bool := s.seq != .idle

/-- `STATUS` (R17). -/
def statusWord (s : State) : Word :=
  (0#16 ++ s.lastOpcode ++ 0#1 ++ s.attempts ++ BitVec.ofBool s.linkOpen ++ BitVec.ofBool s.ok ++ BitVec.ofBool s.done ++
    BitVec.ofBool (busy s) : BitVec 32)

/-- `CTRL` (R19). -/
def ctrlWord (s : State) : Word := (0#30 ++ BitVec.ofBool s.recoveryEn ++ BitVec.ofBool s.debugEn : BitVec 32)

/-- The two states in which the block offers bytes to the PHY (R50). -/
def transmitting (s : State) : Bool := s.seq == .mbTx || s.seq == .rlTx

/-- The condition of R105 and R122: a transmitting state with no byte outstanding. -/
def mayTransmit (s : State) : Bool := transmitting s && !s.txPend

/-- When `Internal` is enabled (R77). -/
def internalEnabled (s : State) : Bool :=
  s.seq == .dispatch || mayTransmit s || (s.seq == .mbRx && !s.rxq.isEmpty)

/-- The column "enabled when" of R73. -/
def enabled (e : Event) (s : State) : Bool :=
  match e with
  | .hostCmd _ _ => s.seq == .idle
  | .hostRead _ => true
  | .tick => true
  | .txAck => s.txPend
  | .txFail => s.txPend
  | .rxByte _ _ => true
  | .openOk => s.seq == .openWait
  | .openFail _ => s.seq == .openWait
  | .internal => internalEnabled s
  | .reset => true

end Sys2Proof.Machine
end

