-- ==== Sys2Proof/Machine/Operands.lean ====
section
/-! DEFINITION. The words made of register fields (spec/10_state.md R20 to R24), the host read map (R33), and the bytes of
the buffers FRAME and RXB (R26, R27). -/

namespace Sys2Proof.Machine

/-- `LINK_FMT`'s layout of the operands of LINK_OPEN: STOP_BITS in 9:8, DATA_BITS in 7:4, PARITY in 1:0 (R20). DEDUCED (log
15): R91's own concatenation has one `0b00` too many for this layout, which its comment names and its example shows. -/
def linkFmtOf (parity : BitVec 2) (dataBits : BitVec 4) (stopBits : BitVec 2) : Word :=
  (0#22 ++ stopBits ++ dataBits ++ 0#2 ++ parity : BitVec 32)

/-- `AXIS_ADDR` (R21). -/
def axisAddrWord (s : State) : Word := (0#16 ++ s.decAddr ++ s.raAddr : BitVec 32)

/-- `ACTIVE_SLAVE`, zero-extended (R22). -/
def activeSlaveWord (s : State) : Word := s.activeSlave.setWidth 32

/-- `RELAY_CFG` (R23). -/
def relayCfgWord (s : State) : Word :=
  (0#16 ++ BitVec.ofBool s.relayValid ++ 0#1 ++ s.chDPlus ++ s.chDMinus ++ s.chPower ++ s.moduleAddr : BitVec 32)

/-- `RELAY_HEX` (R24). -/
def relayHexWord (s : State) : Word := (0#16 ++ s.hexLo ++ s.hexHi : BitVec 32)

/-- The host read map (R33). -/
def readReg (idx : Byte) (s : State) : Word :=
  match idx.toNat with
  | 0 => statusWord s
  | 1 => s.lastErr
  | 2 => ctrlWord s
  | 3 => s.linkBaud
  | 4 => s.linkFmt
  | 5 => axisAddrWord s
  | 6 => activeSlaveWord s
  | 7 => relayCfgWord s
  | 8 => relayHexWord s
  | 9 => s.cmdLatch
  | 10 => s.argLatch
  | _ => 0

/-- A buffer whose first bytes are overwritten; the bytes above keep their value (R26, log 12). -/
def overwrite {n : Nat} (bs : List Byte) (buf : Vector Byte n) : Vector Byte n :=
  ⟨⟨bs.take n ++ buf.toList.drop bs.length⟩, by simp; omega⟩

/-- `FRAME[0..FLEN-1]` (R26). -/
def frameBytes (s : State) : List Byte := s.frame.toList.take s.flen.toNat

/-- `RXB[0..n-1]` (R27). -/
def responseBytes (n : Nat) (s : State) : List Byte := s.rxb.toList.take n

end Sys2Proof.Machine
end

