-- ==== Sys2Proof/Machine/Ops.lean ====
section
/-! DEFINITION. The shared operations: output (spec/00_scope.md R10), flush (spec/20_memory.md R51), completion
(spec/40_command_cycle.md R83), failure (spec/60_exceptions.md R130), acceptance (R81), the receive queue (R80), the start
of a transmission and the offer and acknowledgement of one byte (R104, R105, R106, R121, R122, R123). -/

namespace Sys2Proof.Machine

/-- What a meaning or a step answers. -/
abbrev Result := Host.Outcome State Fault Refusal

/-- `emit E` (R10): the event joins the step's output in program order. -/
def emit (o : Output) (s : State) : State := { s with outputs := s.outputs ++ [o] }

/-- `flush` (R51). -/
def flush (s : State) : State := emit .flush { s with rxq := [], rxqOvf := false }

/-- `complete_ok()` (R83): `LAST_ERR` is not written. -/
def completeOk (s : State) : State := emit (.done true) { s with seq := .idle, done := true, ok := true }

/-- `raise <Class>(cause, detail)` (R130): THE exception entry of this hardware. It records `LAST_ERR` and ends the command;
it saves nothing else, transfers no control and changes no mode (R136), and there is no return from it (R137). The opcode
recorded is that of the latched command. -/
def raise (cls : ErrClass) (cause : Cause) (detail : Byte) (s : State) : State :=
  emit (.done false)
    { s with
      lastErr := errWord (s.cmdLatch.extractLsb' 0 8) detail (causeCode cause) (classCode cls)
      seq := .idle
      done := true
      ok := false }

/-- Command acceptance (R81): the arbiter. -/
def acceptCommand (w0 w1 : Word) (s : State) : State :=
  { s with
    cmdLatch := w0
    argLatch := w1
    done := false
    ok := false
    attempts := 0
    att := 0
    lastOpcode := w0.extractLsb' 0 8
    seq := .dispatch }

/-- `RxByte(b, err)` in any state (R80). -/
def receiveByte (b : Byte) (err : Bool) (s : State) : State :=
  if s.rxq.length < s.cfg.rxqDepth then { s with rxq := s.rxq ++ [{ byte := b, err := err }] }
  else { s with rxqOvf := true }

/-- The trace of R96: the whole frame, when `CTRL.DEBUG_EN` is 1. -/
def traceFrame (s : State) : State := if s.debugEn then emit (.trace (frameBytes s)) s else s

/-- A frame written into `FRAME`, with its length in `FLEN` (R26, R103, R119). -/
def loadFrame (bytes : List Byte) (len : BitVec 4) (s : State) : State :=
  { s with frame := overwrite bytes s.frame, flen := len }

/-- The offer of one byte to the PHY (R105, R122): `emit Tx(FRAME[IDX]); TX_PEND <- 1`, of the frame `bytes`. Where its
`Internal` is not enabled (R77) the event cannot occur and nothing happens (R73). -/
def transmit (bytes : List Byte) (s : State) : Result :=
  if mayTransmit s then
    match bytes[s.idx.toNat]? with
    | some b => .next { emit (.tx b) s with txPend := true }
    | none => .fault .frameIndexPastEnd
  else .next s

/-- What `TxAck` does in both transmitting states (R106, R123) before the end of the frame is looked at: the byte is on the
wire (R74), none is outstanding, and `IDX` advances. -/
def acknowledgeByte (s : State) : State :=
  { s with
    wire := s.wire ++ (s.frame[s.idx.toNat]?).toList
    txPend := false
    idx := s.idx + 1 }

/-- `Reset` (R146): every element of the block takes its reset value and nothing is emitted. What is outside the block stays:
the parameters, the events the environment still holds, and the record of what was emitted, sent and read (log 4, log 11). -/
def resetBlock (s : State) : State :=
  { State.resetWith s.cfg with inputs := s.inputs, outputs := s.outputs, wire := s.wire, readLog := s.readLog }

end Sys2Proof.Machine
end

