-- ==== Sys2Proof/Machine/Framer.lean ====
section
/-! DEFINITION. The Modbus RTU framer and the bounded retry: spec/42_modbus_framer.md R102 to R112. -/

namespace Sys2Proof.Machine

/-- `mux_select(target)` (R102). -/
def muxSelect (target : Byte) (s : State) : State := { s with activeSlave := target }

/-- `start_attempt()` (R104): `RXQ` is not emptied. -/
def startAttempt (s : State) : State :=
  { traceFrame
      { s with
        idx := 0
        rxn := 0
        rxl := 0
        rxqOvf := false
        cnt := 0
        attempts := s.att } with
    seq := .mbTx }

/-- The common end of the two builders of R103: the request and its CRC go into `FRAME`, and attempt 1 starts. -/
def sendRequest (body : List Byte) (len : BitVec 4) (fc : Byte) (s : State) : State :=
  startAttempt { loadFrame (body ++ crcBytes (crc16 s.cfg.crcPreset body)) len s with fc := fc, att := 1 }

/-- `build_wsr(v)` (R103). -/
def buildWsr (v : Half) (s : State) : State := sendRequest (wsrBody s.activeSlave v) 8 fcWsr s

/-- `build_wmr(d, v)` (R103). -/
def buildWmr (d v : Half) (s : State) : State := sendRequest (wmrBody s.activeSlave d v) 13 fcWmr s

/-- The recovery of R111: a `Reinit` and a flush when `CTRL.RECOVERY_EN` is 1. -/
def recover (s : State) : State := if s.recoveryEn then flush (emit .reinit s) else s

/-- `attempt_fail(cause, detail)` (R111). -/
def attemptFail (cause : Cause) (detail : Byte) (s : State) : State :=
  if s.att = maxAttemptsAxis then raise .transmission cause detail (recover s)
  else { recover s with cnt := 0, seq := .mbBackoff }

/-- `TxAck` in `MB_TX` (R106). -/
def mbTxAck (s : State) : State :=
  if (acknowledgeByte s).idx = s.flen then { acknowledgeByte s with cnt := 0, seq := .mbRx } else acknowledgeByte s

/-- `TxFail` in `MB_TX` (R107). -/
def mbTxFail (s : State) : State := attemptFail .txFault (s.idx.setWidth 8) { s with txPend := false }

/-- The checks of R109 on a whole response of `L` bytes, 5 or 8, in R109's order. -/
def validateWhole (L : Nat) (hL : L = 5 ∨ L = 8) (s : State) : State :=
  let c := crc16 s.cfg.crcPreset (responseBytes (L - 2) s)
  if s.rxb[L - 2]'(by omega) ≠ lo8 c ∨ s.rxb[L - 1]'(by omega) ≠ hi8 c then attemptFail .crcMismatch 0 s
  else if s.rxb[0] ≠ s.activeSlave then attemptFail .badSlave s.rxb[0] s
  else if L = 5 then attemptFail .exception s.rxb[2] s
  else
    match firstDiff 2 ((s.rxb.toList.drop 2).take 4) ((s.frame.toList.drop 2).take 4) with
    | some i => attemptFail .badEcho (BitVec.ofNat 8 i) s
    | none => completeOk s

/-- `validate()` (R109): `L = RXL`, which R27 makes 5 or 8. -/
def validate (s : State) : Result :=
  if h : s.rxl.toNat = 5 ∨ s.rxl.toNat = 8 then .next (validateWhole s.rxl.toNat h s)
  else .fault .responseLengthIllegal

/-- The last line of R108: a whole response is checked. -/
def checkWhole (s : State) : Result := if s.rxl ≠ 0 ∧ s.rxn = s.rxl then validate s else .next s

/-- The rest of R108 once byte `b` stands in `RXB` and `RXN` has advanced: byte 1 tells the length (R70). -/
def byteStored (b : Byte) (s : State) : Result :=
  if s.rxn = 2 then
    if b = s.fc then checkWhole { s with rxl := 8 }
    else if b = exceptionFc s.fc then checkWhole { s with rxl := 5 }
    else .next (attemptFail .badFunction b s)
  else checkWhole s

/-- `Internal` in `MB_RX` with an entry in `RXQ` (R108). -/
def mbReceive (s : State) : Result :=
  match s.rxq with
  | [] => .next s
  | e :: rest =>
    let s1 := { s with rxq := rest, cnt := 0 }
    if e.err || s.rxqOvf then .next (attemptFail .rxError (s.rxn.setWidth 8) s1)
    else if h : s.rxn.toNat < 8 then
      byteStored e.byte { s1 with rxb := s.rxb.set s.rxn.toNat e.byte h, rxn := s.rxn + 1 }
    else .fault .responseIndexPastEnd

/-- The limit of R110: the response timeout before the first byte, the inter-byte timeout after it. -/
def rxLimit (s : State) : BitVec 16 := if s.rxn = 0 then s.cfg.respTimeoutTicks else s.cfg.byteTimeoutTicks

/-- `Tick` in `MB_RX` (R110): a tick does not count while a byte waits. -/
def mbRxTick (s : State) : State :=
  if s.rxq.isEmpty then
    if s.cnt + 1 = rxLimit s then attemptFail .timeout (s.rxn.setWidth 8) { s with cnt := s.cnt + 1 }
    else { s with cnt := s.cnt + 1 }
  else s

/-- `Tick` in `MB_BACKOFF` (R112). -/
def backoffTick (s : State) : State :=
  if s.cnt + 1 = backoffTicks then startAttempt { s with cnt := s.cnt + 1, att := s.att + 1 }
  else { s with cnt := s.cnt + 1 }

end Sys2Proof.Machine
end

