-- ==== Sys2Proof/Machine/Axis.lean ====
section
/-! DEFINITION. The axis commands: spec/43_axis_commands.md R114 to R117. -/

namespace Sys2Proof.Machine

/-- `axis_pre(addr, which)` (R114), `mux_select(addr)` (R102), then the builder: the shape every axis command has. -/
def axisCommand (addr which : Byte) (build : State → State) (s : State) : State :=
  if s.linkOpen = false then raise .usage .linkNotOpen 0 s
  else if addr = 0 then raise .usage .addrUnconfigured which s
  else build (muxSelect addr s)

/-- SET_RA_SPEED (R115). -/
def execSetRaSpeed (speed : Half) (s : State) : Result := .next (axisCommand s.raAddr 1 (buildWsr speed) s)

/-- SET_DEC_SPEED (R116). -/
def execSetDecSpeed (speed dir : Half) (s : State) : Result := .next (axisCommand s.decAddr 2 (buildWmr dir speed) s)

/-- STOP_DEC (R117). -/
def execStopDec (s : State) : Result := .next (axisCommand s.decAddr 2 (buildWmr 0 0) s)

end Sys2Proof.Machine
end

