-- ==== Sys2Proof/Machine/Link.lean ====
section
/-! DEFINITION. The link and configuration commands: spec/41_link_config.md R91 to R99. -/

namespace Sys2Proof.Machine

/-- LINK_OPEN (R91). -/
def execLinkOpen (parity : BitVec 2) (dataBits : BitVec 4) (stopBits : BitVec 2) (baud : Word) (s : State) : Result :=
  .next <|
    if s.linkOpen then raise .usage .linkAlreadyOpen 0 s
    else if parity = 3 then raise .connection .cfgInvalid 1 s
    else if dataBits < 5 ∨ 8 < dataBits then raise .connection .cfgInvalid 2 s
    else if stopBits = 0 ∨ stopBits = 3 then raise .connection .cfgInvalid 3 s
    else if baud = 0 then raise .connection .cfgInvalid 4 s
    else
      { emit (.openLink baud (linkFmtOf parity dataBits stopBits)) s with
        pendBaud := baud
        pendFmt := linkFmtOf parity dataBits stopBits
        seq := .openWait }

/-- `OpenOk` in `OPEN_WAIT` (R92). -/
def openOk (s : State) : State :=
  completeOk
    (flush { s with linkBaud := s.pendBaud, linkFmt := s.pendFmt, linkOpen := true, activeSlave := 0 })

/-- `OpenFail(c)` in `OPEN_WAIT` (R93). -/
def openFail (c : Byte) (s : State) : State := raise .connection .openFailed c s

/-- LINK_CLOSE (R94). -/
def execLinkClose (s : State) : Result :=
  .next <| completeOk <|
    if s.linkOpen then
      { emit .close (flush s) with linkOpen := false, linkBaud := 0, linkFmt := 0, activeSlave := 0 }
    else s

/-- SET_DEBUG (R95). -/
def execSetDebug (en : Bool) (s : State) : Result := .next (completeOk { s with debugEn := en })

/-- SET_RECOVERY (R97). -/
def execSetRecovery (en : Bool) (s : State) : Result := .next (completeOk { s with recoveryEn := en })

/-- CFG_AXIS_ADDR (R98): RA is checked first. -/
def execCfgAxisAddr (ra dec : Byte) (s : State) : Result :=
  .next <|
    if ra < slaveMin ∨ slaveMax < ra then raise .usage .addrOutOfRange ra s
    else if dec < slaveMin ∨ slaveMax < dec then raise .usage .addrOutOfRange dec s
    else completeOk { s with raAddr := ra, decAddr := dec }

/-- CFG_RELAY (R99): the channels are checked in the order power, delta-minus, delta-plus. -/
def execCfgRelay (m : Byte) (chPower chDMinus chDPlus : BitVec 2) (s : State) : Result :=
  .next <|
    if channelMax < chPower then raise .usage .channelOutOfRange 1 s
    else if channelMax < chDMinus then raise .usage .channelOutOfRange 2 s
    else if channelMax < chDPlus then raise .usage .channelOutOfRange 3 s
    else
      completeOk
        { s with
          moduleAddr := m
          chPower := chPower
          chDMinus := chDMinus
          chDPlus := chDPlus
          relayValid := true
          hexHi := hexU (m.extractLsb' 4 4)
          hexLo := hexU (m.extractLsb' 0 4) }

end Sys2Proof.Machine
end

