-- ==== Sys2Proof/Machine/ReadPort.lean ====
section
/-! DEFINITION. The host read port: spec/40_command_cycle.md R85. -/

namespace Sys2Proof.Machine

/-- READ (R85): the value goes to the host; no state of the block is written and no event is emitted. -/
def execRead (idx : Byte) (s : State) : Result := .next { s with readLog := s.readLog ++ [(idx, readReg idx s)] }

end Sys2Proof.Machine
end

