-- ==== Sys2Proof/Machine/Relay.lean ====
section
/-! DEFINITION. The relay commands and the steps that finish them: spec/44_relay_commands.md R119 to R126. -/

namespace Sys2Proof.Machine

/-- `build_relay(ch, st)` (R119). -/
def buildRelay (ch : BitVec 2) (st : Bool) (s : State) : State :=
  loadFrame (adamBytes s.hexHi s.hexLo ch st) relayFrameLen s

/-- `relay_send(ch, st)` after its preconditions (R121). -/
def startRelay (ch : BitVec 2) (st : Bool) (s : State) : State :=
  { traceFrame { buildRelay ch st s with att := maxAttemptsRelay, attempts := maxAttemptsRelay, idx := 0 } with
    seq := .rlTx }

/-- `relay_send(ch, st)` (R121), its preconditions `relay_pre(ch)` first (R120). -/
def relaySend (ch : BitVec 2) (st : Bool) (s : State) : State :=
  if s.linkOpen = false then raise .usage .linkNotOpen 0 s
  else if s.relayValid = false then raise .usage .relayUnconfigured 0 s
  else if channelMax < ch then raise .usage .channelOutOfRange 0 s
  else startRelay ch st s

/-- SET_RELAY (R121). -/
def execSetRelay (ch : BitVec 2) (st : Bool) (s : State) : Result := .next (relaySend ch st s)

/-- POWER_ON (R126). -/
def execPowerOn (s : State) : Result := .next (relaySend s.chPower true s)

/-- POWER_OFF (R126). -/
def execPowerOff (s : State) : Result := .next (relaySend s.chPower false s)

/-- DPLUS_ON (R126). -/
def execDplusOn (s : State) : Result := .next (relaySend s.chDPlus true s)

/-- DPLUS_OFF (R126). -/
def execDplusOff (s : State) : Result := .next (relaySend s.chDPlus false s)

/-- DMINUS_ON (R126). -/
def execDminusOn (s : State) : Result := .next (relaySend s.chDMinus true s)

/-- DMINUS_OFF (R126). -/
def execDminusOff (s : State) : Result := .next (relaySend s.chDMinus false s)

/-- `TxAck` in `RL_TX` (R123). -/
def rlTxAck (s : State) : State :=
  if (acknowledgeByte s).idx = s.flen then { acknowledgeByte s with cnt := 0, seq := .rlSettle } else acknowledgeByte s

/-- `TxFail` in `RL_TX`, the short write (R124): no settle and no flush. -/
def rlTxFail (s : State) : State := raise .shortWrite .txShort (s.idx.setWidth 8) { s with txPend := false }

/-- `Tick` in `RL_SETTLE` (R125). -/
def settleTick (s : State) : State :=
  if s.cnt + 1 = settleTicks then completeOk (flush { s with cnt := s.cnt + 1 }) else { s with cnt := s.cnt + 1 }

end Sys2Proof.Machine
end

