-- ==== Sys2Proof/Machine/WireFrames.lean ====
section
/-! DEFINITION. The wire frames of spec/30_encoding.md R65, R66 and R71 as instructions of the framer: what a frame in the
frame buffer does is to go on the wire, one byte a step, `FRAME[IDX]` at a time (R105, R122; log 7). -/

namespace Sys2Proof.Machine

/-- WSR_FRAME: the next byte of the frame of R65 is offered to the PHY (R105). -/
def execWsrFrame (slave : Byte) (value crc : Half) (s : State) : Result := transmit (wsrBytes slave value crc) s

/-- WMR_FRAME: the next byte of the frame of R66 is offered to the PHY (R105). -/
def execWmrFrame (slave : Byte) (dir value crc : Half) (s : State) : Result := transmit (wmrBytes slave dir value crc) s

/-- ADAM_FRAME: the next byte of the frame of R71 is offered to the PHY (R122). -/
def execAdamFrame (hexHi hexLo : Byte) (ch : BitVec 2) (st : Bool) (s : State) : Result :=
  transmit (adamBytes hexHi hexLo ch st) s

end Sys2Proof.Machine
end

