-- ==== Sys2Proof/Machine/Dispatch.lean ====
section
/-! DEFINITION. The meaning of every instruction, one arm a constructor. A command's meaning is its dispatch step
(spec/40_command_cycle.md R82). -/

namespace Sys2Proof.Machine

def exec (i : Instr) (s : State) : Host.Outcome State Fault Refusal :=
  match i with
  | .linkOpen parity dataBits stopBits baud => Sys2Proof.Machine.execLinkOpen parity dataBits stopBits baud s
  | .linkClose => Sys2Proof.Machine.execLinkClose s
  | .setDebug en => Sys2Proof.Machine.execSetDebug en s
  | .setRecovery en => Sys2Proof.Machine.execSetRecovery en s
  | .cfgAxisAddr ra dec => Sys2Proof.Machine.execCfgAxisAddr ra dec s
  | .cfgRelay m cp cm cd => Sys2Proof.Machine.execCfgRelay m cp cm cd s
  | .setRaSpeed speed => Sys2Proof.Machine.execSetRaSpeed speed s
  | .setDecSpeed speed dir => Sys2Proof.Machine.execSetDecSpeed speed dir s
  | .stopDec => Sys2Proof.Machine.execStopDec s
  | .setRelay ch st => Sys2Proof.Machine.execSetRelay ch st s
  | .powerOn => Sys2Proof.Machine.execPowerOn s
  | .powerOff => Sys2Proof.Machine.execPowerOff s
  | .dplusOn => Sys2Proof.Machine.execDplusOn s
  | .dplusOff => Sys2Proof.Machine.execDplusOff s
  | .dminusOn => Sys2Proof.Machine.execDminusOn s
  | .dminusOff => Sys2Proof.Machine.execDminusOff s
  | .read idx => Sys2Proof.Machine.execRead idx s
  | .wsrFrame slave value crc => Sys2Proof.Machine.execWsrFrame slave value crc s
  | .wmrFrame slave dir value crc => Sys2Proof.Machine.execWmrFrame slave dir value crc s
  | .adamFrame h l ch st => Sys2Proof.Machine.execAdamFrame h l ch st s

end Sys2Proof.Machine
end

