-- ==== Sys2Proof/Machine/Cycle.lean ====
section
/-! DEFINITION. The command cycle of spec/40_command_cycle.md: which event comes next (R73, R77), how each is handled in
each state (R78 to R85), and where an instruction is fetched. -/

namespace Sys2Proof.Machine

/-- DECODE AND CHECK, `Internal` in `DISPATCH` (R82). A decoder that finds no frame has nothing to say of a command. -/
def dispatchStep (s : State) : Result :=
  match decode (.command s.cmdLatch s.argLatch) with
  | .reservedOpcode opc => .next (raise .usage .reservedOpcode opc s)
  | .reservedField n => .next (raise .usage .reservedField (BitVec.ofNat 8 n) s)
  | .instr i => exec i s
  | .notAFrame => .next s

/-- `Internal` in `MB_TX` or `RL_TX` with no byte outstanding (R105, R122): the frame in the frame buffer runs. Bytes that
are no frame of R65, R66 or R71 stand there in no state the block reaches (R72); they would be sent in the same way. -/
def transmitStep (s : State) : Result :=
  match (decode (.wire (frameBytes s))).toOption with
  | some i => exec i s
  | none => transmit (frameBytes s) s

/-- `Internal` (R77). -/
def handleInternal (s : State) : Result :=
  match s.seq with
  | .dispatch => dispatchStep s
  | .mbTx => transmitStep s
  | .rlTx => transmitStep s
  | .mbRx => mbReceive s
  | .idle => .next s
  | .openWait => .next s
  | .mbBackoff => .next s
  | .rlSettle => .next s

/-- `Tick` (R78): in every state but three it changes nothing. -/
def handleTick (s : State) : State :=
  match s.seq with
  | .mbRx => mbRxTick s
  | .mbBackoff => backoffTick s
  | .rlSettle => settleTick s
  | .idle => s
  | .dispatch => s
  | .openWait => s
  | .mbTx => s
  | .rlTx => s

/-- `TxAck` (R79). Outside the two transmitting states no byte is outstanding in any state the block reaches; there the
answer only ends the wait that `TX_PEND` stands for (R29, log 14). -/
def handleTxAck (s : State) : State :=
  match s.seq with
  | .mbTx => mbTxAck s
  | .rlTx => rlTxAck s
  | _ => { s with txPend := false }

/-- `TxFail` (R79), and as `TxAck` outside the two transmitting states (log 14). -/
def handleTxFail (s : State) : State :=
  match s.seq with
  | .mbTx => mbTxFail s
  | .rlTx => rlTxFail s
  | _ => { s with txPend := false }

/-- The block's response to one event (R73, R75). -/
def handle (e : Event) (s : State) : Result :=
  match e with
  | .hostCmd w0 w1 => .next (acceptCommand w0 w1 s)
  | .hostRead idx =>
    match (decode (.readPort idx)).toOption with
    | some i => exec i s
    | none => .next s
  | .tick => .next (handleTick s)
  | .txAck => .next (handleTxAck s)
  | .txFail => .next (handleTxFail s)
  | .rxByte b err => .next (receiveByte b err s)
  | .openOk => .next (openOk s)
  | .openFail c => .next (openFail c s)
  | .internal => handleInternal s
  | .reset => .next (resetBlock s)

/-- The first event of a list that is enabled, and the list without it: an event that is not enabled is held by its sender
(R73, log 1). -/
def takeEnabled (s : State) : List Event → Option (Event × List Event)
  | [] => none
  | e :: es =>
    if enabled e s then some (e, es)
    else (takeEnabled s es).map (fun r => (r.1, e :: r.2))

/-- The event of the next step: the first enabled one the environment offers; where it offers none, `Internal` if that is
enabled (R76, log 2). -/
def nextEvent (s : State) : Option (Event × List Event) :=
  match takeEnabled s s.inputs with
  | some r => some r
  | none => if internalEnabled s then some (.internal, s.inputs) else none

/-- Where the instruction of an event stands, if the event runs one: the latches in `DISPATCH` (R82), the frame buffer while
transmitting (R105, R122), the read port (R85). -/
def fetch (e : Event) (s : State) : Option Encoded :=
  match e with
  | .hostRead idx => some (.readPort idx)
  | .internal =>
    if s.seq = .dispatch then some (.command s.cmdLatch s.argLatch)
    else if mayTransmit s then some (.wire (frameBytes s))
    else none
  | _ => none

/-- The state in which the block is about to send a frame from the frame buffer: `RL_TX` for a relay frame, else `MB_TX`. -/
def placeFrame (bytes : List Byte) (s : State) : State :=
  { loadFrame bytes (BitVec.ofNat 4 bytes.length) s with
    idx := 0
    txPend := false
    seq := match decodeWire bytes with
      | .instr (.adamFrame _ _ _ _) => .rlTx
      | _ => .mbTx }

/-- An instruction placed where the next step fetches it (log 5): a command as acceptance leaves it (R81), an index at the
read port, a frame in the frame buffer. -/
def place (x : Encoded) (s : State) : State :=
  match x with
  | .command w0 w1 => { acceptCommand w0 w1 s with inputs := .internal :: s.inputs }
  | .readPort idx => { s with inputs := .hostRead idx :: s.inputs }
  | .wire bytes => { placeFrame bytes s with inputs := .internal :: s.inputs }

end Sys2Proof.Machine
end

