-- ==== Sys2Proof/Machine/Step.lean ====
section
/-! DEFINITION. One step of the machine: one event and the block's response to it (spec/40_command_cycle.md R75). -/

namespace Sys2Proof.Machine

/-- One step. Where no event is enabled the block waits: the state stays as it is (R76, R84; log 2). -/
def step (s : State) : Host.Outcome State Fault Refusal :=
  match nextEvent s with
  | some (e, rest) => handle e { s with inputs := rest }
  | none => .next s

/-- The state in which the very next step runs the instruction whose bits are `w` (log 5, log 6). -/
def State.withFetchWord (s : State) (nbits w : Nat) : State := place (tableImage nbits w) s

end Sys2Proof.Machine
end

