-- ==== Sys2Proof/Safety.lean ====
section
/-! DEFINITION. What counts as a safe state and a safe step: the facts the rules of spec/ say hold in every state of a
block whose parameters are legal (R6). Each part names the rules it comes from. -/

namespace Sys2Proof.Safety

open Sys2Proof.Machine

/-- A format word of `LINK_FMT`'s legal values, its reserved bits 0 (R20). -/
abbrev fmtLegal (w : Word) : Prop :=
  w.extractLsb' 0 2 ≠ 3 ∧ w.extractLsb' 2 2 = 0 ∧ 5 ≤ w.extractLsb' 4 4 ∧ w.extractLsb' 4 4 ≤ 8 ∧
    w.extractLsb' 8 2 ≠ 0 ∧ w.extractLsb' 8 2 ≠ 3 ∧ w.extractLsb' 10 22 = 0

/-- Every cause of R129. -/
def causes : List Cause :=
  [.cfgInvalid, .openFailed, .txFault, .timeout, .rxError, .badFunction, .crcMismatch, .badSlave, .exception, .badEcho,
    .txShort, .linkNotOpen, .linkAlreadyOpen, .addrUnconfigured, .addrOutOfRange, .relayUnconfigured, .channelOutOfRange,
    .reservedOpcode, .reservedField]

/-- A `LAST_ERR` word: 0, or a cause of R129 with its class and reserved bits 0 (R25, R127, R129). -/
abbrev errLegal (w : Word) : Prop :=
  w = 0 ∨ ∃ c ∈ causes, w.extractLsb' 8 8 = causeCode c ∧ w.extractLsb' 3 5 = 0 ∧ w.extractLsb' 0 3 = classCode (causeClass c)

/-- The states in which a frame is in use: an axis command's, or a relay command's transmission (R15, R26). -/
abbrev axisRunning (s : State) : Prop := s.seq = .mbTx ∨ s.seq = .mbRx ∨ s.seq = .mbBackoff

/-- `STATUS` agrees with the sequencer and with the latches: R17, R31, R81, R154, and `ATT` is at most 5 (R6, R113). -/
abbrev statusInv (s : State) : Prop :=
  (s.seq ≠ .idle → s.done = false ∧ s.ok = false) ∧ (s.ok = true → s.done = true) ∧
    s.attempts = s.att ∧ s.att ≤ maxAttemptsAxis ∧ s.lastOpcode = s.cmdLatch.extractLsb' 0 8

/-- The link registers: R20, R22, R32, R91. -/
abbrev linkInv (s : State) : Prop :=
  (s.linkOpen = false → s.linkBaud = 0 ∧ s.linkFmt = 0 ∧ s.activeSlave = 0) ∧
    (s.linkOpen = true → s.linkBaud ≠ 0 ∧ fmtLegal s.linkFmt) ∧
    (s.seq = .openWait → s.linkOpen = false ∧ s.pendBaud ≠ 0 ∧ fmtLegal s.pendFmt)

/-- The slave addresses: 0 or 1..247, both configured or neither (R21, R22, R38). -/
abbrev addrInv (s : State) : Prop :=
  s.raAddr ≤ slaveMax ∧ s.decAddr ≤ slaveMax ∧ s.activeSlave ≤ slaveMax ∧ (s.raAddr = 0 ↔ s.decAddr = 0)

/-- The relay configuration: no channel is 3, and the cached digits are those of the module address (R23, R24). -/
abbrev relayInv (s : State) : Prop :=
  s.chPower ≤ channelMax ∧ s.chDMinus ≤ channelMax ∧ s.chDPlus ≤ channelMax ∧
    s.hexHi = hexU (s.moduleAddr.extractLsb' 4 4) ∧ s.hexLo = hexU (s.moduleAddr.extractLsb' 0 4)

/-- The frame in use is the well-formed frame of the running command, to the selected slave (R22, R26, R45, R72, R102, R103). -/
def frameInUse (s : State) : Bool :=
  match decode (.wire (frameBytes s)) with
  | .instr (.wsrFrame a v c) =>
    decide (s.seq ≠ .rlTx) && decide (a = s.activeSlave) && decide (s.fc = fcWsr) && decide (s.flen = 8) &&
      (Instr.wsrFrame a v c).wf s.cfg.crcPreset
  | .instr (.wmrFrame a d v c) =>
    decide (s.seq ≠ .rlTx) && decide (a = s.activeSlave) && decide (s.fc = fcWmr) && decide (s.flen = 13) &&
      (Instr.wmrFrame a d v c).wf s.cfg.crcPreset
  | .instr (.adamFrame h l k st) =>
    decide (s.seq = .rlTx) && decide (s.flen = 8) && (Instr.adamFrame h l k st).wf s.cfg.crcPreset
  | _ => false

/-- Transmission: a byte is outstanding only while transmitting, and `IDX` is below `FLEN` there (R16, R29, R50, R79). -/
abbrev txInv (s : State) : Prop :=
  (s.txPend = true → s.seq = .mbTx ∨ s.seq = .rlTx) ∧
    (s.seq = .mbTx ∨ s.seq = .rlTx → s.idx < s.flen) ∧
    (axisRunning s ∨ s.seq = .rlTx → frameInUse s = true ∧ s.linkOpen = true ∧ s.att ≠ 0) ∧
    (s.seq = .rlTx ∨ s.seq = .rlSettle → s.att = maxAttemptsRelay ∧ s.linkOpen = true) ∧
    (s.seq = .mbBackoff → s.att < maxAttemptsAxis)

/-- Reception: the response so far is short of its length, and the queue within its depth (R27, R28, R104, R108). -/
abbrev rxInv (s : State) : Prop :=
  (s.seq = .mbTx → s.rxn = 0 ∧ s.rxl = 0) ∧
    (s.seq = .mbRx → (s.rxl = 0 ∧ s.rxn < 2) ∨ ((s.rxl = 5 ∨ s.rxl = 8) ∧ 2 ≤ s.rxn ∧ s.rxn < s.rxl)) ∧
    s.rxq.length ≤ s.cfg.rxqDepth

/-- A running wait has not reached its limit (R30, R110, R112, R125). -/
abbrev waitInv (s : State) : Prop :=
  (s.seq = .mbRx → s.cnt < rxLimit s) ∧ (s.seq = .mbBackoff → s.cnt < backoffTicks) ∧ (s.seq = .rlSettle → s.cnt < settleTicks)

/-- The invariant of the block: legal parameters (R6) and every part above. -/
structure Inv (s : State) : Prop where
  params : s.cfg.wf = true
  status : statusInv s
  link : linkInv s
  addr : addrInv s
  relay : relayInv s
  err : errLegal s.lastErr
  tx : txInv s
  rx : rxInv s
  wait : waitInv s

/-- `n` steps, stopping at the first fault or refusal. -/
def run : Nat → State → Result
  | 0, s => .next s
  | n + 1, s =>
    match step s with
    | .next t => run n t
    | .fault f => .fault f
    | .refused r => .refused r

/-- A step that goes on: no fault and no refusal (R133: no failure is fatal). -/
def goesOn (s : State) : Prop := ∃ t, step s = .next t

end Sys2Proof.Safety
end

