-- ==== Sys2Proof/Certificates/Slice0/Obligations.lean ====
section
/-! DEFINITION. The statements for the provers. The terms they are stated in come first; what a rule of spec/ makes of the
state is written out again here as a record, so that a statement fixes every field: what a record does not name is
unchanged. -/

namespace Sys2Proof.Claims

open Sys2Proof.Machine

/-- The opcode of the latched command. -/
def opcodeOf (s : State) : Byte := s.cmdLatch.extractLsb' 0 8

/-- A command that fails (R130): `LAST_ERR` is `w`, the sequencer is idle, DONE is 1, OK is 0, and Done(0) is emitted. -/
def failed (w : Word) (s : State) : State :=
  { s with lastErr := w, seq := .idle, done := true, ok := false, outputs := s.outputs ++ [.done false] }

/-- A command that succeeds (R83). -/
def succeeded (s : State) : State :=
  { s with seq := .idle, done := true, ok := true, outputs := s.outputs ++ [.done true] }

/-- The recovery after a failed attempt (R111, R51). -/
def recovered (s : State) : State :=
  if s.recoveryEn then { s with rxq := [], rxqOvf := false, outputs := s.outputs ++ [.reinit, .flush] } else s

/-- A failed attempt (R111): recovery, then the command's failure at the 5th attempt and the backoff at an earlier one. -/
def attemptEnds (cause detail : Byte) (s : State) : State :=
  if s.att = 5 then failed (errWord (opcodeOf s) detail cause 2) (recovered s)
  else { recovered s with cnt := 0, seq := .mbBackoff }

/-- The start of an attempt (R104) whose number is already in ATT. -/
def attemptStarts (s : State) : State :=
  { s with
    idx := 0, rxn := 0, rxl := 0, rxqOvf := false, cnt := 0, attempts := s.att, seq := .mbTx
    outputs := s.outputs ++ (if s.debugEn then [.trace (s.frame.toList.take s.flen.toNat)] else []) }

/-- `n` bytes offered and acknowledged. -/
def acks (n : Nat) : List Event := (List.replicate n [Event.internal, Event.txAck]).flatten

/-- `n` ticks. -/
def ticks (n : Nat) : List Event := List.replicate n .tick

/-- One attempt that the PHY acknowledges byte by byte and the slave does not answer. -/
def silentAttempt (s : State) : List Event := acks s.flen.toNat ++ ticks s.cfg.respTimeoutTicks.toNat

/-- Bytes as the PHY delivers them without error. -/
def good (bs : List Byte) : List RxEntry := bs.map (fun b => { byte := b, err := false })

/-- An output event that is a Tx. -/
def isTx : Output → Bool
  | .tx _ => true
  | _ => false

/-- An output event that is a Done. -/
def isDone : Output → Bool
  | .done _ => true
  | _ => false

/-- An output event that is a Trace. -/
def isTrace : Output → Bool
  | .trace _ => true
  | _ => false

/-- An event that is a command. -/
def isHostCmd : Event → Bool
  | .hostCmd _ _ => true
  | _ => false

/-- An answer of the PHY, or a Reset: what ends a wait for the PHY. -/
def endsPhyWait : Event → Bool
  | .txAck => true
  | .txFail => true
  | .openOk => true
  | .openFail _ => true
  | .reset => true
  | _ => false

/-- The next step's event is a Reset. -/
def resetIsNext (s : State) : Prop := ∃ rest, nextEvent s = some (.reset, rest)

/-- The latched command. -/
def latched (s : State) : Decoded := decode (.command s.cmdLatch s.argLatch)

/-- The reserved opcodes of R60. -/
def reservedOpcode (b : Byte) : Prop :=
  b = 0x00 ∨ (0x07 ≤ b ∧ b ≤ 0x0F) ∨ (0x13 ≤ b ∧ b ≤ 0x1F) ∨ 0x27 ≤ b

/-- The bits of W1 that are not marked "ign" in R57, by format. -/
def readMask : Format → Word
  | .n => 0
  | .fl => 0
  | .lk => 0xFFFFFFFF
  | .ax => 0
  | .rc => 0
  | .sr => 0x0000FFFF
  | .sd => 0xFFFFFFFF
  | .rl => 0

/-- The state a receive step leaves that only stores byte `b` (R108): the entry is popped, CNT is cleared, and `b` stands in
RXB[RXN]. -/
def stored (b : Byte) (more : List RxEntry) (s : State) : State :=
  { s with
    rxq := more, cnt := 0, rxn := s.rxn + 1
    rxb := if h : s.rxn.toNat < 8 then s.rxb.set s.rxn.toNat b h else s.rxb }

/-- What debug tracing may change: CTRL.DEBUG_EN, the Trace events, and what a read of CTRL returns. -/
def untraced (s : State) : State :=
  { s with debugEn := false, outputs := s.outputs.filter (fun o => !isTrace o), readLog := [] }

/-- The channel and the state digit of each relay command (R121, R126). -/
def relayOperands (i : Instr) (s : State) : Option (BitVec 2 × Bool) :=
  match i with
  | .setRelay ch st => some (ch, st)
  | .powerOn => some (s.chPower, true)
  | .powerOff => some (s.chPower, false)
  | .dplusOn => some (s.chDPlus, true)
  | .dplusOff => some (s.chDPlus, false)
  | .dminusOn => some (s.chDMinus, true)
  | .dminusOff => some (s.chDMinus, false)
  | _ => none

/-- The address and the number of the axis each axis command drives (R114 to R117). -/
def axisOperands (i : Instr) (s : State) : Option (Byte × Byte) :=
  match i with
  | .setRaSpeed _ => some (s.raAddr, 1)
  | .setDecSpeed _ _ => some (s.decAddr, 2)
  | .stopDec => some (s.decAddr, 2)
  | _ => none

end Sys2Proof.Claims

open Sys2Proof Sys2Proof.Machine Sys2Proof.Safety Sys2Proof.Claims

/-! ## Encoding -/

/-- Decode and encode agree for every instruction and every operand value (R57, R58, R59, R65, R66, R71, R85). -/
def Obligations.DecodeOfEncodeIsIdentity : Prop := ∀ i : Instr, decode (encode i) = .instr i

/-- Every bit that is not ignored is read: a frame that decodes is its instruction's bytes; and of a command that decodes,
the encoder writes back the first word whole and every bit of the second that R57 does not mark ignored, the ignored ones
as 0, and those words decode to the same command (R57, R61, R62, R65, R66, R71). -/
def Obligations.DecodedBitsAreReencoded : Prop :=
  (∀ (bs : List Byte) (i : Instr), decode (.wire bs) = .instr i → encode i = .wire bs) ∧
  (∀ (w0 w1 : Word) (i : Instr), decode (.command w0 w1) = .instr i →
    ∃ o, opcodeOf? (opcodeField w0) = some o ∧ encode i = .command w0 (w1 &&& readMask (formatOf o)) ∧
      decode (.command w0 (w1 &&& readMask (formatOf o))) = .instr i)

/-- Words written out from the tables of R57, R59, R65, R66 and R71 decode to their instructions. -/
def Obligations.WrittenWordsDecode : Prop :=
  decode (.command 0x00018001 0x00002580) = .instr (.linkOpen 0 8 1 9600) ∧
    decode (.command 0x00020105 0) = .instr (.cfgAxisAddr 1 2) ∧
    decode (.command 0x00181A06 0) = .instr (.cfgRelay 26 0 2 1) ∧
    decode (.command 0x00000011 0x00011388) = .instr (.setDecSpeed 5000 1) ∧
    decode (.command 0x00001120 0) = .instr (.setRelay 1 true) ∧
    decode (.wire [0x01, 0x06, 0xF0, 0x0B, 0x13, 0x88, 0xC6, 0x5E]) = .instr (.wsrFrame 1 5000 0x5EC6) ∧
    decode (.wire [0x23, 0x31, 0x41, 0x31, 0x31, 0x30, 0x31, 0x0D]) = .instr (.adamFrame 0x31 0x41 1 true)

/-- R60: a reserved opcode fails in the dispatch step with UsageError(RESERVED_OPCODE, OPC), whatever else the words hold;
nothing goes on the wire and no register but STATUS and LAST_ERR changes. -/
def Obligations.ReservedOpcodeIsRefused : Prop :=
  ∀ (s : State) (rest : List Event), s.seq = .dispatch → nextEvent s = some (.internal, rest) →
    reservedOpcode (opcodeOf s) →
    step s = .next (failed (errWord (opcodeOf s) (opcodeOf s) 0x36 4) { s with inputs := rest })

/-- R61: a reserved bit that is 1 fails the command in the dispatch step, with the index of the lowest such bit; the check
comes after the opcode check and before every other. -/
def Obligations.ReservedFieldIsRefused : Prop :=
  ∀ (s : State) (rest : List Event) (o : Opcode) (n : Nat), s.seq = .dispatch → nextEvent s = some (.internal, rest) →
    opcodeOf? (opcodeOf s) = some o →
    (s.cmdLatch &&& reservedMask (formatOf o)).getLsbD n = true →
    (∀ k < n, (s.cmdLatch &&& reservedMask (formatOf o)).getLsbD k = false) →
    step s = .next (failed (errWord (opcodeOf s) (BitVec.ofNat 8 n) 0x37 4) { s with inputs := rest })

/-- R62: W1 has no effect on the command that formats N, FL, AX, RC and RL read, and W1[31:16] none on SET_RA_SPEED. -/
def Obligations.IgnoredFieldsHaveNoEffect : Prop :=
  ∀ (w0 w1 w1' : Word),
    (∀ o, opcodeOf? (opcodeField w0) = some o → formatOf o ≠ .lk ∧ formatOf o ≠ .sr ∧ formatOf o ≠ .sd →
      decode (.command w0 w1) = decode (.command w0 w1')) ∧
    (opcodeOf? (opcodeField w0) = some .setRaSpeed → w1.extractLsb' 0 16 = w1'.extractLsb' 0 16 →
      decode (.command w0 w1) = decode (.command w0 w1'))

/-! ## The command cycle -/

/-- Where the next event runs an instruction and its bits decode, the step is that instruction's meaning, on the state the
event has been taken from. Which event comes next and where it stands are the model's choice (logs 1, 2, 5 and 7). -/
def Obligations.StepRunsTheDecodedInstruction : Prop :=
  ∀ (s : State) (e : Event) (rest : List Event) (x : Encoded) (i : Instr),
    nextEvent s = some (e, rest) → fetch e s = some x → decode x = .instr i →
    step s = exec i { s with inputs := rest }

/-- An instruction placed where the machine fetches runs in the very next step (the model's choice of the place: log 5). -/
def Obligations.PlacedInstructionRunsNext : Prop :=
  ∀ (i : Instr) (s : State),
    step (place (encode i) s) = exec i { place (encode i) s with inputs := s.inputs }

/-- R73: an event that is not enabled is held by its sender and the first enabled one of the schedule is taken (log 1); where
none is, Internal is taken if it is enabled, and else the block waits and nothing changes (log 2). -/
def Obligations.DisabledEventsAreHeld : Prop :=
  (∀ (s : State) (pre post : List Event) (e : Event),
    s.inputs = pre ++ e :: post → (∀ x ∈ pre, enabled x s = false) → enabled e s = true →
    step s = handle e { s with inputs := pre ++ post }) ∧
  (∀ s : State, (∀ x ∈ s.inputs, enabled x s = false) →
    step s = if internalEnabled s = true then handle .internal s else .next s)

/-- R77: when Internal is enabled. -/
def Obligations.InternalEnabledExactlyWhere : Prop :=
  ∀ s : State, enabled .internal s = true ↔
    s.seq = .dispatch ∨ (s.seq = .mbTx ∧ s.txPend = false) ∨ (s.seq = .mbRx ∧ s.rxq ≠ []) ∨
      (s.seq = .rlTx ∧ s.txPend = false)

/-- R81: an idle block accepts the command. -/
def Obligations.IdleBlockAcceptsCommand : Prop :=
  ∀ (s : State) (w0 w1 : Word) (rest : List Event), s.seq = .idle → s.inputs = .hostCmd w0 w1 :: rest →
    step s = .next
      { s with
        inputs := rest, cmdLatch := w0, argLatch := w1, done := false, ok := false, attempts := 0, att := 0
        lastOpcode := w0.extractLsb' 0 8, seq := .dispatch }

/-- R81, R54: while a command runs, every other command stays with its sender, and no step but a Reset changes the latches. -/
def Obligations.BusyBlockHoldsCommands : Prop :=
  ∀ (s t : State), s.seq ≠ .idle → step s = .next t →
    t.inputs.filter isHostCmd = s.inputs.filter isHostCmd ∧
      (¬ resetIsNext s → t.cmdLatch = s.cmdLatch ∧ t.argLatch = s.argLatch)

/-- R80: a received byte joins the queue, or is lost and sets RXQ_OVF; nothing else changes. -/
def Obligations.ReceivedByteIsQueuedOrLost : Prop :=
  ∀ (s : State) (b : Byte) (err : Bool) (rest : List Event), s.inputs = .rxByte b err :: rest →
    step s = .next
      (if s.rxq.length < s.cfg.rxqDepth then { s with inputs := rest, rxq := s.rxq ++ [{ byte := b, err := err }] }
       else { s with inputs := rest, rxqOvf := true })

/-- R78, R110: a tick changes nothing in a state that times nothing, nor while a byte waits for the receive step. -/
def Obligations.UntimedTickChangesNothing : Prop :=
  ∀ (s : State) (rest : List Event), s.inputs = .tick :: rest →
    (s.seq ≠ .mbRx ∧ s.seq ≠ .mbBackoff ∧ s.seq ≠ .rlSettle) ∨ (s.seq = .mbRx ∧ s.rxq ≠ []) →
    step s = .next { s with inputs := rest }

/-- R146: Reset, in any state, gives every element its reset value and emits nothing; what lies outside the block stays. That
what lies outside the block stays is the model's reading (logs 4 and 11). -/
def Obligations.ResetGivesResetValues : Prop :=
  ∀ (s : State) (rest : List Event), s.inputs = .reset :: rest →
    ∃ t, step s = .next t ∧
      t = { s with
            inputs := rest
            cmdLatch := 0, argLatch := 0, seq := .idle, idx := 0
            done := false, ok := false, linkOpen := false, attempts := 0, lastOpcode := 0, lastErr := 0
            debugEn := false, recoveryEn := false, linkBaud := 0, linkFmt := 0, pendBaud := 0, pendFmt := 0
            raAddr := 0, decAddr := 0, activeSlave := 0
            moduleAddr := 0, chPower := 0, chDMinus := 2, chDPlus := 1, relayValid := false, hexHi := 0x30, hexLo := 0x30
            frame := Vector.replicate 13 0, flen := 0, fc := 0
            rxb := Vector.replicate 8 0, rxn := 0, rxl := 0, rxq := [], rxqOvf := false
            txPend := false, cnt := 0, att := 0 } ∧
      ∀ idx : Byte, readReg idx t = if idx = 7 then 0x00001800 else if idx = 8 then 0x00003030 else 0

/-! ## The read port -/

/-- R85: a read, in any state and for any index, answers the register's value and changes nothing of the block. The record
`readLog` is the model's own (log 4). -/
def Obligations.ReadHasNoSideEffect : Prop :=
  ∀ (s : State) (idx : Byte),
    exec (.read idx) s = .next { s with readLog := s.readLog ++ [(idx, readReg idx s)] } ∧
      ∀ rest, s.inputs = .hostRead idx :: rest →
        step s = .next { s with inputs := rest, readLog := s.readLog ++ [(idx, readReg idx s)] } ∧
          (11 ≤ idx → readReg idx s = 0)

/-- R33 with the layouts of R14, R17, R19 to R25: every field of every readable word, and 0 for the reserved bits and for
the indices above 10. LAST_ERR and LINK_FMT are held as whole words: their fields are placed where they are written, by a
failure and by LINK_OPEN (log 15), and their reserved bits are 0 in every state with the invariant. -/
def Obligations.ReadMapGivesEveryField : Prop :=
  ∀ s : State,
    ((readReg 0 s).getLsbD 0 = (s.seq != .idle) ∧ (readReg 0 s).getLsbD 1 = s.done ∧ (readReg 0 s).getLsbD 2 = s.ok ∧
      (readReg 0 s).getLsbD 3 = s.linkOpen ∧ (readReg 0 s).extractLsb' 4 3 = s.attempts ∧
      (readReg 0 s).getLsbD 7 = false ∧ (readReg 0 s).extractLsb' 8 8 = s.lastOpcode ∧
      (readReg 0 s).extractLsb' 16 16 = 0) ∧
    readReg 1 s = s.lastErr ∧
    ((readReg 2 s).getLsbD 0 = s.debugEn ∧ (readReg 2 s).getLsbD 1 = s.recoveryEn ∧ (readReg 2 s).extractLsb' 2 30 = 0) ∧
    readReg 3 s = s.linkBaud ∧ readReg 4 s = s.linkFmt ∧
    ((readReg 5 s).extractLsb' 0 8 = s.raAddr ∧ (readReg 5 s).extractLsb' 8 8 = s.decAddr ∧
      (readReg 5 s).extractLsb' 16 16 = 0) ∧
    ((readReg 6 s).extractLsb' 0 8 = s.activeSlave ∧ (readReg 6 s).extractLsb' 8 24 = 0) ∧
    ((readReg 7 s).extractLsb' 0 8 = s.moduleAddr ∧ (readReg 7 s).extractLsb' 8 2 = s.chPower ∧
      (readReg 7 s).extractLsb' 10 2 = s.chDMinus ∧ (readReg 7 s).extractLsb' 12 2 = s.chDPlus ∧
      (readReg 7 s).getLsbD 14 = false ∧ (readReg 7 s).getLsbD 15 = s.relayValid ∧
      (readReg 7 s).extractLsb' 16 16 = 0) ∧
    ((readReg 8 s).extractLsb' 0 8 = s.hexHi ∧ (readReg 8 s).extractLsb' 8 8 = s.hexLo ∧
      (readReg 8 s).extractLsb' 16 16 = 0) ∧
    readReg 9 s = s.cmdLatch ∧ readReg 10 s = s.argLatch ∧
    (∀ idx : Byte, 11 ≤ idx → readReg idx s = 0) ∧
    (∀ (cls : ErrClass) (c : Cause) (d : Byte),
      (readReg 1 (raise cls c d s)).extractLsb' 0 3 = classCode cls ∧
        (readReg 1 (raise cls c d s)).extractLsb' 3 5 = 0 ∧
        (readReg 1 (raise cls c d s)).extractLsb' 8 8 = causeCode c ∧
        (readReg 1 (raise cls c d s)).extractLsb' 16 8 = d ∧
        (readReg 1 (raise cls c d s)).extractLsb' 24 8 = opcodeOf s) ∧
    (∀ (par : BitVec 2) (db : BitVec 4) (sb : BitVec 2) (baud : Word) (u : State),
      exec (.linkOpen par db sb baud) s = .next u → u.seq = .openWait →
      (readReg 4 (openOk u)).extractLsb' 0 2 = par ∧ (readReg 4 (openOk u)).extractLsb' 2 2 = 0 ∧
        (readReg 4 (openOk u)).extractLsb' 4 4 = db ∧ (readReg 4 (openOk u)).extractLsb' 8 2 = sb ∧
        (readReg 4 (openOk u)).extractLsb' 10 22 = 0) ∧
    (Inv s →
      (readReg 1 s).extractLsb' 3 5 = 0 ∧ (readReg 4 s).extractLsb' 2 2 = 0 ∧ (readReg 4 s).extractLsb' 10 22 = 0)

/-! ## Link and configuration commands -/

/-- R91: LINK_OPEN, every form: the refusals in their order, and the request to the PHY. The LINK_FMT word asked for is the
layout of R20 (log 15). -/
def Obligations.LinkOpenChecksThenAsksThePhy : Prop :=
  ∀ (s : State) (par : BitVec 2) (db : BitVec 4) (sb : BitVec 2) (baud : Word),
    exec (.linkOpen par db sb baud) s = .next
      (if s.linkOpen = true then failed (errWord (opcodeOf s) 0 0x31 4) s
       else if par = 3 then failed (errWord (opcodeOf s) 1 0x01 1) s
       else if db < 5 ∨ db > 8 then failed (errWord (opcodeOf s) 2 0x01 1) s
       else if sb = 0 ∨ sb = 3 then failed (errWord (opcodeOf s) 3 0x01 1) s
       else if baud = 0 then failed (errWord (opcodeOf s) 4 0x01 1) s
       else
         { s with
           pendBaud := baud, pendFmt := (0#22 ++ sb ++ db ++ 0#2 ++ par : BitVec 32), seq := .openWait
           outputs := s.outputs ++ [.openLink baud (0#22 ++ sb ++ db ++ 0#2 ++ par : BitVec 32)] })

/-- R92, R93: the PHY's answer to a LINK_OPEN. -/
def Obligations.PhyAnswerEndsTheOpen : Prop :=
  ∀ (s : State) (rest : List Event), s.seq = .openWait →
    (s.inputs = .openOk :: rest →
      step s = .next
        { s with
          inputs := rest, linkBaud := s.pendBaud, linkFmt := s.pendFmt, linkOpen := true, activeSlave := 0
          rxq := [], rxqOvf := false, seq := .idle, done := true, ok := true
          outputs := s.outputs ++ [.flush, .done true] }) ∧
    (∀ c, s.inputs = .openFail c :: rest →
      step s = .next (failed (errWord (opcodeOf s) c 0x02 1) { s with inputs := rest }))

/-- R94: LINK_CLOSE, on an open and on a closed link. -/
def Obligations.LinkCloseReleasesOnce : Prop :=
  ∀ s : State,
    exec .linkClose s = .next
      (if s.linkOpen = true then
        { s with
          linkOpen := false, linkBaud := 0, linkFmt := 0, activeSlave := 0, rxq := [], rxqOvf := false
          seq := .idle, done := true, ok := true, outputs := s.outputs ++ [.flush, .close, .done true] }
       else succeeded s)

/-- R95, R97: SET_DEBUG and SET_RECOVERY, whether the link is open or closed. -/
def Obligations.SwitchCommandsWriteTheirSwitch : Prop :=
  ∀ (s : State) (en : Bool),
    exec (.setDebug en) s = .next (succeeded { s with debugEn := en }) ∧
      exec (.setRecovery en) s = .next (succeeded { s with recoveryEn := en })

/-- R98: CFG_AXIS_ADDR, every form, RA checked first. -/
def Obligations.CfgAxisAddrChecksThenWrites : Prop :=
  ∀ (s : State) (ra dec : Byte),
    exec (.cfgAxisAddr ra dec) s = .next
      (if ra < 1 ∨ ra > 247 then failed (errWord (opcodeOf s) ra 0x33 4) s
       else if dec < 1 ∨ dec > 247 then failed (errWord (opcodeOf s) dec 0x33 4) s
       else succeeded { s with raAddr := ra, decAddr := dec })

/-- R99: CFG_RELAY, every form, the channels checked in the order power, delta-minus, delta-plus. -/
def Obligations.CfgRelayChecksThenWrites : Prop :=
  ∀ (s : State) (m : Byte) (cp cm cd : BitVec 2),
    exec (.cfgRelay m cp cm cd) s = .next
      (if cp = 3 then failed (errWord (opcodeOf s) 1 0x35 4) s
       else if cm = 3 then failed (errWord (opcodeOf s) 2 0x35 4) s
       else if cd = 3 then failed (errWord (opcodeOf s) 3 0x35 4) s
       else succeeded
         { s with
           moduleAddr := m, chPower := cp, chDMinus := cm, chDPlus := cd, relayValid := true
           hexHi := hexU (m.extractLsb' 4 4), hexLo := hexU (m.extractLsb' 0 4) })

/-- R118: hexU, digit by digit. -/
def Obligations.HexDigitsAreUppercase : Prop :=
  ∀ n : BitVec 4, [0x30#8, 0x31, 0x32, 0x33, 0x34, 0x35, 0x36, 0x37, 0x38, 0x39, 0x41, 0x42, 0x43, 0x44, 0x45, 0x46][n.toNat]?
    = some (hexU n)

/-! ## Axis commands -/

/-- R114: an axis command on a closed link, or whose address is not configured, is refused; nothing is sent and
ACTIVE_SLAVE is unchanged. -/
def Obligations.AxisCommandPreconditions : Prop :=
  ∀ (i : Instr) (s : State) (addr which : Byte), axisOperands i s = some (addr, which) →
    (s.linkOpen = false → exec i s = .next (failed (errWord (opcodeOf s) 0 0x30 4) s)) ∧
    (s.linkOpen = true → addr = 0 → exec i s = .next (failed (errWord (opcodeOf s) which 0x32 4) s))

/-- R115 with R65, R102, R103, R104: SET_RA_SPEED selects the RA slave, builds the WSR frame and starts attempt 1. That
the bytes of FRAME above the frame keep their value is the model's reading (log 12). -/
def Obligations.SetRaSpeedStartsTheWrite : Prop :=
  ∀ (s : State) (v : Half), s.linkOpen = true → s.raAddr ≠ 0 →
    ∃ t, exec (.setRaSpeed v) s = .next t ∧
      t.frame.toList.take 6 = [s.raAddr, 0x06, 0xF0, 0x0B, v.extractLsb' 8 8, v.extractLsb' 0 8] ∧
      (t.frame.toList.drop 6).take 2 =
        [(crc16 s.cfg.crcPreset (t.frame.toList.take 6)).extractLsb' 0 8,
          (crc16 s.cfg.crcPreset (t.frame.toList.take 6)).extractLsb' 8 8] ∧
      t.frame.toList.drop 8 = s.frame.toList.drop 8 ∧
      t = attemptStarts { s with activeSlave := s.raAddr, frame := t.frame, flen := 8, fc := 0x06, att := 1 }

/-- R116 with R46, R66, R102, R103, R104: SET_DEC_SPEED selects the DEC slave, builds one WMR frame that carries direction,
then speed, and starts attempt 1. -/
def Obligations.SetDecSpeedStartsTheWrite : Prop :=
  ∀ (s : State) (v d : Half), s.linkOpen = true → s.decAddr ≠ 0 →
    ∃ t, exec (.setDecSpeed v d) s = .next t ∧
      t.frame.toList.take 11 =
        [s.decAddr, 0x10, 0x00, 0x01, 0x00, 0x02, 0x04, d.extractLsb' 8 8, d.extractLsb' 0 8, v.extractLsb' 8 8,
          v.extractLsb' 0 8] ∧
      t.frame.toList.drop 11 =
        [(crc16 s.cfg.crcPreset (t.frame.toList.take 11)).extractLsb' 0 8,
          (crc16 s.cfg.crcPreset (t.frame.toList.take 11)).extractLsb' 8 8] ∧
      t = attemptStarts { s with activeSlave := s.decAddr, frame := t.frame, flen := 13, fc := 0x10, att := 1 }

/-- R117: STOP_DEC completes as SET_DEC_SPEED with direction 0 and speed 0 does, from every state. -/
def Obligations.StopDecIsZeroDirectionZeroSpeed : Prop :=
  ∀ s : State, ∃ t, exec .stopDec s = .next t ∧ exec (.setDecSpeed 0 0) s = .next t ∧
    (s.linkOpen = true → s.decAddr ≠ 0 →
      (t.frame.toList.drop 1).take 10 = [0x10, 0x00, 0x01, 0x00, 0x02, 0x04, 0x00, 0x00, 0x00, 0x00] ∧ t.seq = .mbTx)

/-! ## The Modbus framer -/

/-- R101: under MODBUS the CRC of a whole correct frame, CRC bytes included, is 0; under CCITT_FALSE no fixed residue
holds. -/
def Obligations.CrcResidue : Prop :=
  (∀ bs : List Byte, crc16 .modbus (bs ++ crcBytes (crc16 .modbus bs)) = 0) ∧
    ¬ ∃ r, ∀ bs : List Byte, crc16 .ccittFalse (bs ++ crcBytes (crc16 .ccittFalse bs)) = r

/-- R105, R122 with the frames of R65, R66 and R71: each wire frame offers its byte number IDX, and only while no other
byte is outstanding; where its event is not enabled nothing happens, and IDX past its end is the fault of log 8. That this is a
frame's meaning is the model's reading (log 7). -/
def Obligations.WireFramesOfferTheirNextByte : Prop :=
  ∀ (s : State) (i : Instr) (bs : List Byte), encode i = .wire bs →
    ((s.seq = .mbTx ∨ s.seq = .rlTx) → s.txPend = false → ∀ h : s.idx.toNat < bs.length,
      exec i s = .next { s with txPend := true, outputs := s.outputs ++ [.tx bs[s.idx.toNat]] }) ∧
    ((s.seq = .mbTx ∨ s.seq = .rlTx) → s.txPend = false → bs.length ≤ s.idx.toNat →
      exec i s = .fault .frameIndexPastEnd) ∧
    (¬ (s.seq = .mbTx ∨ s.seq = .rlTx) ∨ s.txPend = true → exec i s = .next s)

/-- R65, R66, R71: each wire frame puts the byte its table names at IDX on the wire. That this is a frame's meaning
is the model's reading (log 7). -/
def Obligations.WireFramesSendTheBytesOfTheirTables : Prop :=
  ∀ (s : State) (b : Byte), (s.seq = .mbTx ∨ s.seq = .rlTx) → s.txPend = false →
    (∀ (a : Byte) (v c : Half),
      [a, 0x06, 0xF0, 0x0B, v.extractLsb' 8 8, v.extractLsb' 0 8, c.extractLsb' 0 8, c.extractLsb' 8 8][s.idx.toNat]? = some b →
      exec (.wsrFrame a v c) s = .next { s with txPend := true, outputs := s.outputs ++ [.tx b] }) ∧
    (∀ (a : Byte) (d v c : Half),
      [a, 0x10, 0x00, 0x01, 0x00, 0x02, 0x04, d.extractLsb' 8 8, d.extractLsb' 0 8, v.extractLsb' 8 8,
        v.extractLsb' 0 8, c.extractLsb' 0 8, c.extractLsb' 8 8][s.idx.toNat]? = some b →
      exec (.wmrFrame a d v c) s = .next { s with txPend := true, outputs := s.outputs ++ [.tx b] }) ∧
    (∀ (h l : Byte) (k : BitVec 2) (st : Bool),
      [0x23, h, l, 0x31, 0x30 + k.setWidth 8, 0x30, 0x30 + (BitVec.ofBool st).setWidth 8, 0x0D][s.idx.toNat]? = some b →
      exec (.adamFrame h l k st) s = .next { s with txPend := true, outputs := s.outputs ++ [.tx b] })

/-- R106, R123: TxAck in a transmitting state. -/
def Obligations.TxAckAdvancesTheFrame : Prop :=
  ∀ (s : State) (rest : List Event), s.inputs = .txAck :: rest → s.txPend = true → s.seq = .mbTx ∨ s.seq = .rlTx →
    ∀ h : s.idx.toNat < 13,
    step s = .next
      (if s.idx + 1 = s.flen then
        { s with
          inputs := rest, txPend := false, idx := s.idx + 1, wire := s.wire ++ [s.frame[s.idx.toNat]], cnt := 0
          seq := if s.seq = .mbTx then .mbRx else .rlSettle }
       else { s with inputs := rest, txPend := false, idx := s.idx + 1, wire := s.wire ++ [s.frame[s.idx.toNat]] })

/-- R107 with R111: TxFail in MB_TX ends the attempt with the number of bytes acknowledged. -/
def Obligations.TxFailEndsTheAttempt : Prop :=
  ∀ (s : State) (rest : List Event), s.inputs = .txFail :: rest → s.txPend = true → s.seq = .mbTx →
    step s = .next (attemptEnds 0x10 (s.idx.setWidth 8) { s with inputs := rest, txPend := false })

/-- R49, R50, R106, R123: a frame that the PHY acknowledges goes on the wire whole, in index order and with nothing
between its bytes; then the response, or the settle, is waited for. -/
def Obligations.FrameGoesOutWholeAndInOrder : Prop :=
  ∀ (s : State) (rest : List Event), s.seq = .mbTx ∨ s.seq = .rlTx → s.txPend = false → s.idx = 0 → s.flen ≠ 0 →
    s.flen.toNat ≤ 13 → s.inputs = acks s.flen.toNat ++ rest →
    run (2 * s.flen.toNat) s = .next
      { s with
        inputs := rest, idx := s.flen, cnt := 0, seq := if s.seq = .mbTx then .mbRx else .rlSettle
        outputs := s.outputs ++ (s.frame.toList.take s.flen.toNat).map Output.tx
        wire := s.wire ++ s.frame.toList.take s.flen.toNat }

/-- R108: an errored byte, or an overflow, ends the attempt with the number of bytes received before it. -/
def Obligations.ErroredByteEndsTheAttempt : Prop :=
  ∀ (s : State) (e : RxEntry) (more : List RxEntry) (rest : List Event), nextEvent s = some (.internal, rest) →
    s.seq = .mbRx → s.rxq = e :: more → e.err = true ∨ s.rxqOvf = true →
    step s = .next (attemptEnds 0x12 (s.rxn.setWidth 8) { s with inputs := rest, rxq := more, cnt := 0 })

/-- R70, R108: the receive step of an unerrored byte. A byte that neither is byte 1 nor completes the response is only
stored. Byte 1 tells the response's length, and any other function byte fails the attempt as soon as it comes. -/
def Obligations.FunctionByteDecidesTheLength : Prop :=
  (∀ (s : State) (b : Byte) (more : List RxEntry) (rest : List Event), nextEvent s = some (.internal, rest) →
    s.seq = .mbRx → s.rxq = { byte := b, err := false } :: more → s.rxqOvf = false → s.rxn < 8 → s.rxn ≠ 1 →
    ¬ (s.rxl ≠ 0 ∧ s.rxn + 1 = s.rxl) →
    step s = .next (stored b more { s with inputs := rest })) ∧
  (∀ (s : State) (b : Byte) (more : List RxEntry) (rest : List Event), nextEvent s = some (.internal, rest) →
    s.seq = .mbRx → s.rxq = { byte := b, err := false } :: more → s.rxqOvf = false → s.rxn = 1 →
    ∃ t0 : State, t0 = { s with inputs := rest, rxq := more, cnt := 0, rxn := 2, rxb := s.rxb.set 1 b } ∧
      step s = .next
        (if b = s.fc then { t0 with rxl := 8 }
         else if b = s.fc ||| 0x80 then { t0 with rxl := 5 }
         else attemptEnds 0x13 b t0))

/-- R109: the checks of a normal response, in their order, when its eighth byte is taken. -/
def Obligations.NormalResponseChecksInOrder : Prop :=
  ∀ (s : State) (b : Byte) (more : List RxEntry) (rest : List Event), nextEvent s = some (.internal, rest) →
    s.seq = .mbRx → s.rxq = { byte := b, err := false } :: more → s.rxqOvf = false → s.rxn = 7 → s.rxl = 8 →
    ∃ t0 : State, t0 = { s with inputs := rest, rxq := more, cnt := 0, rxn := 8, rxb := s.rxb.set 7 b } ∧
      step s = .next
        (if s.rxb[6] ≠ (crc16 s.cfg.crcPreset (s.rxb.toList.take 6)).extractLsb' 0 8 ∨
            b ≠ (crc16 s.cfg.crcPreset (s.rxb.toList.take 6)).extractLsb' 8 8 then attemptEnds 0x14 0 t0
         else if s.rxb[0] ≠ s.activeSlave then attemptEnds 0x15 s.rxb[0] t0
         else if s.rxb[2] ≠ s.frame[2] then attemptEnds 0x17 2 t0
         else if s.rxb[3] ≠ s.frame[3] then attemptEnds 0x17 3 t0
         else if s.rxb[4] ≠ s.frame[4] then attemptEnds 0x17 4 t0
         else if s.rxb[5] ≠ s.frame[5] then attemptEnds 0x17 5 t0
         else succeeded t0)

/-- R67, R68, R109: the expected response, in the queue, completes the command with success in eight steps; bytes that
follow it stay. -/
def Obligations.ExpectedResponseSucceeds : Prop :=
  ∀ (s : State) (more : List RxEntry) (rest : List Event), s.seq = .mbRx → s.rxn = 0 → s.rxl = 0 → s.rxqOvf = false →
    s.frame[0] = s.activeSlave → s.frame[1] = s.fc →
    s.rxq = good (s.frame.toList.take 6 ++ crcBytes (crc16 s.cfg.crcPreset (s.frame.toList.take 6))) ++ more →
    s.inputs = List.replicate 8 .internal ++ rest →
    ∃ t, run 8 s = .next t ∧
      t.rxb.toList = s.frame.toList.take 6 ++ crcBytes (crc16 s.cfg.crcPreset (s.frame.toList.take 6)) ∧
      t = succeeded { s with inputs := rest, rxq := more, rxb := t.rxb, rxn := 8, rxl := 8, cnt := 0 }

/-- R69, R109: the checks of an exception response, in their order, when its fifth byte is taken: CRC, address, and then the
failure with the slave's code. So a well-formed exception response, with any code, fails the attempt with that code in five
steps. -/
def Obligations.ExceptionResponseFailsTheAttempt : Prop :=
  (∀ (s : State) (b : Byte) (more : List RxEntry) (rest : List Event), nextEvent s = some (.internal, rest) →
    s.seq = .mbRx → s.rxq = { byte := b, err := false } :: more → s.rxqOvf = false → s.rxn = 4 → s.rxl = 5 →
    ∃ t0 : State, t0 = { s with inputs := rest, rxq := more, cnt := 0, rxn := 5, rxb := s.rxb.set 4 b } ∧
      step s = .next
        (if s.rxb[3] ≠ (crc16 s.cfg.crcPreset (s.rxb.toList.take 3)).extractLsb' 0 8 ∨
            b ≠ (crc16 s.cfg.crcPreset (s.rxb.toList.take 3)).extractLsb' 8 8 then attemptEnds 0x14 0 t0
         else if s.rxb[0] ≠ s.activeSlave then attemptEnds 0x15 s.rxb[0] t0
         else attemptEnds 0x16 s.rxb[2] t0)) ∧
  (∀ (s : State) (code : Byte) (more : List RxEntry) (rest : List Event), s.seq = .mbRx → s.rxn = 0 → s.rxl = 0 →
    s.rxqOvf = false → s.fc.getLsbD 7 = false →
    s.rxq = good ([s.activeSlave, s.fc ||| 0x80, code] ++
      crcBytes (crc16 s.cfg.crcPreset [s.activeSlave, s.fc ||| 0x80, code])) ++ more →
    s.inputs = List.replicate 5 .internal ++ rest →
    ∃ rxb : Vector Byte 8,
      rxb.toList.take 5 = [s.activeSlave, s.fc ||| 0x80, code] ++
        crcBytes (crc16 s.cfg.crcPreset [s.activeSlave, s.fc ||| 0x80, code]) ∧
      run 5 s = .next
        (attemptEnds 0x16 code { s with inputs := rest, rxq := more, rxb := rxb, rxn := 5, rxl := 5, cnt := 0 }))

/-- R110: while no byte waits each tick counts, and the one that makes the count the limit fails the attempt with TIMEOUT:
the response timeout before the first byte, the inter-byte timeout after it; a tick while a byte waits changes nothing. So a
silent slave fails the attempt at the limit's last tick and not before. -/
def Obligations.SilentSlaveTimesOut : Prop :=
  (∀ (s : State) (lim : BitVec 16) (rest : List Event), s.seq = .mbRx → s.inputs = .tick :: rest →
    lim = (if s.rxn = 0 then s.cfg.respTimeoutTicks else s.cfg.byteTimeoutTicks) →
    step s = .next
      (if s.rxq ≠ [] then { s with inputs := rest }
       else if s.cnt + 1 = lim then attemptEnds 0x11 (s.rxn.setWidth 8) { s with inputs := rest, cnt := lim }
       else { s with inputs := rest, cnt := s.cnt + 1 })) ∧
  (∀ (s : State) (lim : BitVec 16) (rest : List Event), s.seq = .mbRx → s.rxq = [] → s.cnt = 0 →
    lim = (if s.rxn = 0 then s.cfg.respTimeoutTicks else s.cfg.byteTimeoutTicks) → lim ≠ 0 →
    s.inputs = ticks lim.toNat ++ rest →
    run lim.toNat s = .next (attemptEnds 0x11 (s.rxn.setWidth 8) { s with inputs := rest, cnt := lim }) ∧
      ∀ n < lim.toNat, run n s = .next { s with inputs := ticks (lim.toNat - n) ++ rest, cnt := BitVec.ofNat 16 n })

/-- R112 with R104: each tick of a backoff counts, and the one that makes the count 150 starts the next attempt; so from
the start of a backoff its 150th tick does that, and no earlier one does anything but count. -/
def Obligations.BackoffLastsItsTicks : Prop :=
  (∀ (s : State) (rest : List Event), s.seq = .mbBackoff → s.inputs = .tick :: rest →
    step s = .next
      (if s.cnt + 1 = 150 then attemptStarts { s with inputs := rest, att := s.att + 1 }
       else { s with inputs := rest, cnt := s.cnt + 1 })) ∧
  (∀ (s : State) (rest : List Event), s.seq = .mbBackoff → s.cnt = 0 → s.inputs = ticks 150 ++ rest →
    run 150 s = .next (attemptStarts { s with inputs := rest, att := s.att + 1 }) ∧
      ∀ n < 150, run n s = .next { s with inputs := ticks (150 - n) ++ rest, cnt := BitVec.ofNat 16 n })

/-- R113, the property of the source's section 8: a slave that never answers draws exactly five attempts, all with the
same frame, four backoffs between them, and then the failure of the fifth. -/
def Obligations.PermanentFailureMakesFiveAttempts : Prop :=
  ∀ (s : State) (rest : List Event), s.seq = .mbTx → s.txPend = false → s.idx = 0 → s.rxn = 0 → s.rxl = 0 → s.att = 1 →
    s.flen ≠ 0 → s.flen.toNat ≤ 13 → s.rxq = [] → s.recoveryEn = false → s.debugEn = false →
    s.cfg.respTimeoutTicks ≠ 0 →
    s.inputs = (List.replicate 4 (silentAttempt s ++ ticks 150)).flatten ++ silentAttempt s ++ rest →
    run (5 * (2 * s.flen.toNat + s.cfg.respTimeoutTicks.toNat) + 4 * 150) s = .next
      { s with
        inputs := rest, seq := .idle, done := true, ok := false, att := 5, attempts := 5
        lastErr := errWord (opcodeOf s) 0 0x11 2
        idx := s.flen, cnt := s.cfg.respTimeoutTicks, rxqOvf := false
        outputs := s.outputs ++ (List.replicate 5 ((s.frame.toList.take s.flen.toNat).map Output.tx)).flatten ++ [.done false]
        wire := s.wire ++ (List.replicate 5 (s.frame.toList.take s.flen.toNat)).flatten }

/-- From an idle block on an open link, a SET_RA_SPEED command whose slave answers as R67 says runs to success: the eight
bytes of R65 and nothing else go on the wire, once, and the frame is traced where tracing is on. -/
def Obligations.RaSpeedCommandRunsToSuccess : Prop :=
  ∀ (s : State) (w1 : Word) (bs : List Byte) (rest : List Event), s.seq = .idle → s.txPend = false → s.linkOpen = true →
    s.raAddr ≠ 0 → s.rxq = [] → 8 ≤ s.cfg.rxqDepth →
    bs = [s.raAddr, 0x06, 0xF0, 0x0B, w1.extractLsb' 8 8, w1.extractLsb' 0 8] ++
      crcBytes (crc16 s.cfg.crcPreset [s.raAddr, 0x06, 0xF0, 0x0B, w1.extractLsb' 8 8, w1.extractLsb' 0 8]) →
    s.inputs = [.hostCmd 0x00000010 w1, .internal] ++ acks 8 ++ bs.map (fun b => Event.rxByte b false) ++
      List.replicate 8 .internal ++ rest →
    ∃ t, run 34 s = .next t ∧ t.inputs = rest ∧ t.seq = .idle ∧ t.done = true ∧ t.ok = true ∧ t.attempts = 1 ∧
      t.lastOpcode = 0x10 ∧ t.lastErr = s.lastErr ∧ t.activeSlave = s.raAddr ∧ t.rxq = [] ∧
      t.wire = s.wire ++ bs ∧
      t.outputs = s.outputs ++ (if s.debugEn then [.trace bs] else []) ++ bs.map Output.tx ++ [.done true]

/-! ## Relay commands -/

/-- R120: the refusals of a relay command, in their order. -/
def Obligations.RelayCommandPreconditions : Prop :=
  ∀ (i : Instr) (s : State) (ch : BitVec 2) (st : Bool), relayOperands i s = some (ch, st) →
    (s.linkOpen = false → exec i s = .next (failed (errWord (opcodeOf s) 0 0x30 4) s)) ∧
    (s.linkOpen = true → s.relayValid = false → exec i s = .next (failed (errWord (opcodeOf s) 0 0x34 4) s)) ∧
    (s.linkOpen = true → s.relayValid = true → ch = 3 → exec i s = .next (failed (errWord (opcodeOf s) 0 0x35 4) s))

/-- R121 and R126 with R71, R96, R119: SET_RELAY and the six wrappers build the relay frame and start its transmission. That the
bytes of FRAME above the frame keep their value is the model's reading (log 12). -/
def Obligations.RelayCommandStartsItsFrame : Prop :=
  ∀ (i : Instr) (s : State) (ch : BitVec 2) (st : Bool), relayOperands i s = some (ch, st) →
    s.linkOpen = true → s.relayValid = true → ch ≠ 3 →
    ∃ t, exec i s = .next t ∧
      t.frame.toList.take 8 =
        [0x23, s.hexHi, s.hexLo, 0x31, 0x30 + ch.setWidth 8, 0x30, 0x30 + (BitVec.ofBool st).setWidth 8, 0x0D] ∧
      t.frame.toList.drop 8 = s.frame.toList.drop 8 ∧
      t = { s with
            frame := t.frame, flen := 8, att := 1, attempts := 1, idx := 0, seq := .rlTx
            outputs := s.outputs ++ (if s.debugEn then [.trace (t.frame.toList.take 8)] else []) }

/-- R124: a short write ends the command at once, with no settle and no flush. -/
def Obligations.ShortWriteFailsAtOnce : Prop :=
  ∀ (s : State) (rest : List Event), s.inputs = .txFail :: rest → s.txPend = true → s.seq = .rlTx →
    step s = .next
      (failed (errWord (opcodeOf s) (s.idx.setWidth 8) 0x20 3) { s with inputs := rest, txPend := false })

/-- R125: each tick of a settle counts, and the one that makes the count 250 flushes and completes; so from the start of a
settle its 250th tick does that, and no earlier one does anything but count. -/
def Obligations.SettleLastsItsTicksThenFlushes : Prop :=
  (∀ (s : State) (rest : List Event), s.seq = .rlSettle → s.inputs = .tick :: rest →
    step s = .next
      (if s.cnt + 1 = 250 then
        { s with
          inputs := rest, cnt := 250, rxq := [], rxqOvf := false, seq := .idle, done := true, ok := true
          outputs := s.outputs ++ [.flush, .done true] }
       else { s with inputs := rest, cnt := s.cnt + 1 })) ∧
  (∀ (s : State) (rest : List Event), s.seq = .rlSettle → s.cnt = 0 → s.inputs = ticks 250 ++ rest →
    run 250 s = .next
      { s with
        inputs := rest, cnt := 250, rxq := [], rxqOvf := false, seq := .idle, done := true, ok := true
        outputs := s.outputs ++ [.flush, .done true] } ∧
      ∀ n < 250, run n s = .next { s with inputs := ticks (250 - n) ++ rest, cnt := BitVec.ofNat 16 n })

/-! ## The whole machine -/

/-- Every step keeps the invariant of Safety.lean. -/
def Obligations.StepKeepsInvariant : Prop := ∀ s t : State, Inv s → step s = .next t → Inv t

/-- A block with legal parameters has the invariant after reset. -/
def Obligations.ResetHasInvariant : Prop := ∀ c : Config, c.wf = true → Inv (State.resetWith c)

/-- R133: in a state with the invariant no step stops. The stops it rules out are those of logs 8 and 9. -/
def Obligations.InvariantStatesGoOn : Prop := ∀ s : State, Inv s → goesOn s

/-- Whatever the environment does, a block with legal parameters goes on for ever and keeps the invariant. The events are
those of the model's schedule (logs 1 and 2). -/
def Obligations.EveryRunFromResetIsSafe : Prop :=
  ∀ (c : Config) (evs : List Event) (n : Nat), c.wf = true →
    ∃ t, run n { State.resetWith c with inputs := evs } = .next t ∧ Inv t

/-- R50 with R106 and R108: the half-duplex discipline; MB_RX is entered only by the TxAck of the frame's last byte. -/
def Obligations.HalfDuplexDiscipline : Prop :=
  ∀ s t : State, step s = .next t →
    (t.outputs.countP isTx = s.outputs.countP isTx ∨
      (t.outputs.countP isTx = s.outputs.countP isTx + 1 ∧ (s.seq = .mbTx ∨ s.seq = .rlTx) ∧ s.txPend = false ∧
        t.txPend = true)) ∧
    (t.rxq = s.rxq ∨ (∃ e, t.rxq = s.rxq ++ [e]) ∨ (s.seq = .mbRx ∧ t.rxq = s.rxq.tail) ∨
      (t.rxq = [] ∧ (Output.flush ∈ t.outputs.drop s.outputs.length ∨ resetIsNext s))) ∧
    (t.seq = .mbRx → s.seq ≠ .mbRx →
      s.seq = .mbTx ∧ s.txPend = true ∧ (∃ rest, nextEvent s = some (.txAck, rest)) ∧ t.idx = s.idx + 1 ∧ t.idx = t.flen ∧
        t.wire = s.wire ++ (s.frame[s.idx.toNat]?).toList) ∧
    (t.seq = .mbTx → s.seq ≠ .mbTx → s.seq = .dispatch ∨ s.seq = .mbBackoff)

/-- R22: who writes ACTIVE_SLAVE, and with what. -/
def Obligations.ActiveSlaveWriters : Prop :=
  ∀ s t : State, step s = .next t → ¬ resetIsNext s →
    t.activeSlave = s.activeSlave ∨
    (s.seq = .dispatch ∧ (∃ v, latched s = .instr (.setRaSpeed v)) ∧ t.activeSlave = s.raAddr) ∨
    (s.seq = .dispatch ∧ ((∃ v d, latched s = .instr (.setDecSpeed v d)) ∨ latched s = .instr .stopDec) ∧
      t.activeSlave = s.decAddr) ∨
    (s.seq = .dispatch ∧ latched s = .instr .linkClose ∧ t.activeSlave = 0) ∨
    (s.seq = .openWait ∧ t.activeSlave = 0)

/-- R17, R19, R20, R21, R23, R24, R32: each configuration register is written by its commands alone: AXIS_ADDR, RELAY_CFG,
RELAY_HEX, CTRL and the pending link configuration in the dispatch step of the one command that writes them, and LINK_BAUD,
LINK_FMT and STATUS.LINK_OPEN by the PHY's OpenOk and by LINK_CLOSE. The layout of PEND_FMT is that of log 15. -/
def Obligations.ConfigurationWriters : Prop :=
  ∀ s t : State, step s = .next t → ¬ resetIsNext s →
    ((t.raAddr = s.raAddr ∧ t.decAddr = s.decAddr) ∨
      (s.seq = .dispatch ∧ latched s = .instr (.cfgAxisAddr t.raAddr t.decAddr))) ∧
    ((t.moduleAddr = s.moduleAddr ∧ t.chPower = s.chPower ∧ t.chDMinus = s.chDMinus ∧ t.chDPlus = s.chDPlus ∧
        t.relayValid = s.relayValid ∧ t.hexHi = s.hexHi ∧ t.hexLo = s.hexLo) ∨
      (s.seq = .dispatch ∧ latched s = .instr (.cfgRelay t.moduleAddr t.chPower t.chDMinus t.chDPlus))) ∧
    (t.debugEn = s.debugEn ∨ (s.seq = .dispatch ∧ latched s = .instr (.setDebug t.debugEn))) ∧
    (t.recoveryEn = s.recoveryEn ∨ (s.seq = .dispatch ∧ latched s = .instr (.setRecovery t.recoveryEn))) ∧
    ((t.pendBaud = s.pendBaud ∧ t.pendFmt = s.pendFmt) ∨
      (s.seq = .dispatch ∧ ∃ par db sb, latched s = .instr (.linkOpen par db sb t.pendBaud) ∧
        t.pendFmt = (0#22 ++ sb ++ db ++ 0#2 ++ par : BitVec 32))) ∧
    ((t.linkBaud = s.linkBaud ∧ t.linkFmt = s.linkFmt ∧ t.linkOpen = s.linkOpen) ∨
      (s.seq = .openWait ∧ (∃ rest, nextEvent s = some (.openOk, rest)) ∧ t.linkBaud = s.pendBaud ∧
        t.linkFmt = s.pendFmt ∧ t.linkOpen = true) ∨
      (s.seq = .dispatch ∧ latched s = .instr .linkClose ∧ s.linkOpen = true ∧ t.linkBaud = 0 ∧ t.linkFmt = 0 ∧
        t.linkOpen = false))

/-- R20: while the link is open no step changes its configuration. -/
def Obligations.OpenLinkConfigurationIsImmutable : Prop :=
  ∀ s t : State, Inv s → s.linkOpen = true → t.linkOpen = true → step s = .next t →
    t.linkBaud = s.linkBaud ∧ t.linkFmt = s.linkFmt

/-- R25, R130: LAST_ERR changes only in a step that ends a command with Done(0), and then names its opcode. -/
def Obligations.LastErrWrittenOnlyByFailure : Prop :=
  ∀ s t : State, step s = .next t → t.lastErr ≠ s.lastErr → ¬ resetIsNext s →
    s.seq ≠ .idle ∧ t.seq = .idle ∧ t.done = true ∧ t.ok = false ∧
      t.lastErr.extractLsb' 24 8 = s.cmdLatch.extractLsb' 0 8 ∧ t.lastErr.extractLsb' 3 5 = 0 ∧
      ∃ os, t.outputs = s.outputs ++ os ++ [.done false]

/-- R84: Done is emitted exactly in the steps that end a command, once in each, unless the step is a Reset. -/
def Obligations.DoneExactlyAtTheEnd : Prop :=
  ∀ s t : State, step s = .next t → ¬ resetIsNext s →
    t.outputs.countP isDone = s.outputs.countP isDone + (if s.seq ≠ .idle ∧ t.seq = .idle then 1 else 0)

/-- R131: a command that fails in its dispatch step changes nothing but STATUS and LAST_ERR, and emits Done(0) alone. -/
def Obligations.RefusalsChangeNothingElse : Prop :=
  ∀ (s t : State) (rest : List Event), s.seq = .dispatch → nextEvent s = some (.internal, rest) → step s = .next t →
    t.seq = .idle → t.ok = false → t = failed t.lastErr { s with inputs := rest }

/-- R96, the property of the source's section 8: two blocks that differ only in CTRL.DEBUG_EN, in their Trace events and in
what reads returned go on differing only there, whatever happens. -/
def Obligations.DebugTracingChangesOnlyTraces : Prop :=
  ∀ s1 s2 t1 : State, untraced s1 = untraced s2 → step s1 = .next t1 →
    ∃ t2, step s2 = .next t2 ∧ untraced t1 = untraced t2

/-- R76, R155: a block that waits for the PHY's answer to a Tx or an Open waits for ever where neither that answer nor a
Reset comes; it emits nothing and completes nothing. That a step with nothing enabled changes
nothing is the model's choice (log 2). -/
def Obligations.UnansweredPhyHangsTheBlock : Prop :=
  ∀ (s : State) (n : Nat), ((s.seq = .mbTx ∨ s.seq = .rlTx) ∧ s.txPend = true) ∨ s.seq = .openWait →
    (∀ e ∈ s.inputs, endsPhyWait e = false) →
    ∃ t, run n s = .next t ∧ t.seq = s.seq ∧ t.txPend = s.txPend ∧ t.outputs = s.outputs ∧ t.done = s.done
end

