-- ==== Sys2Proof/Laws/State.lean ====
section
/-! SUPPORT. What each named update of State leaves in each field: one lemma a field, so that no proof unfolds a record. -/

namespace Sys2Proof.Machine

variable (s : State) (o : Output) (cls : ErrClass) (cause : Cause) (d a : Byte)
variable (w0 w1 : Word) (bs : List Byte) (n : BitVec 4)

/-! The output `emit` adds (R10). -/

@[simp] theorem emit_cmdLatch : (emit o s).cmdLatch = s.cmdLatch := rfl
@[simp] theorem emit_argLatch : (emit o s).argLatch = s.argLatch := rfl
@[simp] theorem emit_seq : (emit o s).seq = s.seq := rfl
@[simp] theorem emit_idx : (emit o s).idx = s.idx := rfl
@[simp] theorem emit_done : (emit o s).done = s.done := rfl
@[simp] theorem emit_ok : (emit o s).ok = s.ok := rfl
@[simp] theorem emit_linkOpen : (emit o s).linkOpen = s.linkOpen := rfl
@[simp] theorem emit_attempts : (emit o s).attempts = s.attempts := rfl
@[simp] theorem emit_lastOpcode : (emit o s).lastOpcode = s.lastOpcode := rfl
@[simp] theorem emit_debugEn : (emit o s).debugEn = s.debugEn := rfl
@[simp] theorem emit_recoveryEn : (emit o s).recoveryEn = s.recoveryEn := rfl
@[simp] theorem emit_linkBaud : (emit o s).linkBaud = s.linkBaud := rfl
@[simp] theorem emit_linkFmt : (emit o s).linkFmt = s.linkFmt := rfl
@[simp] theorem emit_raAddr : (emit o s).raAddr = s.raAddr := rfl
@[simp] theorem emit_decAddr : (emit o s).decAddr = s.decAddr := rfl
@[simp] theorem emit_activeSlave : (emit o s).activeSlave = s.activeSlave := rfl
@[simp] theorem emit_moduleAddr : (emit o s).moduleAddr = s.moduleAddr := rfl
@[simp] theorem emit_chPower : (emit o s).chPower = s.chPower := rfl
@[simp] theorem emit_chDMinus : (emit o s).chDMinus = s.chDMinus := rfl
@[simp] theorem emit_chDPlus : (emit o s).chDPlus = s.chDPlus := rfl
@[simp] theorem emit_relayValid : (emit o s).relayValid = s.relayValid := rfl
@[simp] theorem emit_hexHi : (emit o s).hexHi = s.hexHi := rfl
@[simp] theorem emit_hexLo : (emit o s).hexLo = s.hexLo := rfl
@[simp] theorem emit_lastErr : (emit o s).lastErr = s.lastErr := rfl
@[simp] theorem emit_frame : (emit o s).frame = s.frame := rfl
@[simp] theorem emit_flen : (emit o s).flen = s.flen := rfl
@[simp] theorem emit_fc : (emit o s).fc = s.fc := rfl
@[simp] theorem emit_rxb : (emit o s).rxb = s.rxb := rfl
@[simp] theorem emit_rxn : (emit o s).rxn = s.rxn := rfl
@[simp] theorem emit_rxl : (emit o s).rxl = s.rxl := rfl
@[simp] theorem emit_rxq : (emit o s).rxq = s.rxq := rfl
@[simp] theorem emit_rxqOvf : (emit o s).rxqOvf = s.rxqOvf := rfl
@[simp] theorem emit_txPend : (emit o s).txPend = s.txPend := rfl
@[simp] theorem emit_cnt : (emit o s).cnt = s.cnt := rfl
@[simp] theorem emit_att : (emit o s).att = s.att := rfl
@[simp] theorem emit_pendBaud : (emit o s).pendBaud = s.pendBaud := rfl
@[simp] theorem emit_pendFmt : (emit o s).pendFmt = s.pendFmt := rfl
@[simp] theorem emit_cfg : (emit o s).cfg = s.cfg := rfl
@[simp] theorem emit_inputs : (emit o s).inputs = s.inputs := rfl
@[simp] theorem emit_outputs : (emit o s).outputs = s.outputs ++ [o] := rfl
@[simp] theorem emit_wire : (emit o s).wire = s.wire := rfl
@[simp] theorem emit_readLog : (emit o s).readLog = s.readLog := rfl

/-! `flush` (R51). -/

@[simp] theorem flush_cmdLatch : (flush s).cmdLatch = s.cmdLatch := rfl
@[simp] theorem flush_argLatch : (flush s).argLatch = s.argLatch := rfl
@[simp] theorem flush_seq : (flush s).seq = s.seq := rfl
@[simp] theorem flush_idx : (flush s).idx = s.idx := rfl
@[simp] theorem flush_done : (flush s).done = s.done := rfl
@[simp] theorem flush_ok : (flush s).ok = s.ok := rfl
@[simp] theorem flush_linkOpen : (flush s).linkOpen = s.linkOpen := rfl
@[simp] theorem flush_attempts : (flush s).attempts = s.attempts := rfl
@[simp] theorem flush_lastOpcode : (flush s).lastOpcode = s.lastOpcode := rfl
@[simp] theorem flush_debugEn : (flush s).debugEn = s.debugEn := rfl
@[simp] theorem flush_recoveryEn : (flush s).recoveryEn = s.recoveryEn := rfl
@[simp] theorem flush_linkBaud : (flush s).linkBaud = s.linkBaud := rfl
@[simp] theorem flush_linkFmt : (flush s).linkFmt = s.linkFmt := rfl
@[simp] theorem flush_raAddr : (flush s).raAddr = s.raAddr := rfl
@[simp] theorem flush_decAddr : (flush s).decAddr = s.decAddr := rfl
@[simp] theorem flush_activeSlave : (flush s).activeSlave = s.activeSlave := rfl
@[simp] theorem flush_moduleAddr : (flush s).moduleAddr = s.moduleAddr := rfl
@[simp] theorem flush_chPower : (flush s).chPower = s.chPower := rfl
@[simp] theorem flush_chDMinus : (flush s).chDMinus = s.chDMinus := rfl
@[simp] theorem flush_chDPlus : (flush s).chDPlus = s.chDPlus := rfl
@[simp] theorem flush_relayValid : (flush s).relayValid = s.relayValid := rfl
@[simp] theorem flush_hexHi : (flush s).hexHi = s.hexHi := rfl
@[simp] theorem flush_hexLo : (flush s).hexLo = s.hexLo := rfl
@[simp] theorem flush_lastErr : (flush s).lastErr = s.lastErr := rfl
@[simp] theorem flush_frame : (flush s).frame = s.frame := rfl
@[simp] theorem flush_flen : (flush s).flen = s.flen := rfl
@[simp] theorem flush_fc : (flush s).fc = s.fc := rfl
@[simp] theorem flush_rxb : (flush s).rxb = s.rxb := rfl
@[simp] theorem flush_rxn : (flush s).rxn = s.rxn := rfl
@[simp] theorem flush_rxl : (flush s).rxl = s.rxl := rfl
@[simp] theorem flush_rxq : (flush s).rxq = [] := rfl
@[simp] theorem flush_rxqOvf : (flush s).rxqOvf = false := rfl
@[simp] theorem flush_txPend : (flush s).txPend = s.txPend := rfl
@[simp] theorem flush_cnt : (flush s).cnt = s.cnt := rfl
@[simp] theorem flush_att : (flush s).att = s.att := rfl
@[simp] theorem flush_pendBaud : (flush s).pendBaud = s.pendBaud := rfl
@[simp] theorem flush_pendFmt : (flush s).pendFmt = s.pendFmt := rfl
@[simp] theorem flush_cfg : (flush s).cfg = s.cfg := rfl
@[simp] theorem flush_inputs : (flush s).inputs = s.inputs := rfl
@[simp] theorem flush_outputs : (flush s).outputs = s.outputs ++ [.flush] := rfl
@[simp] theorem flush_wire : (flush s).wire = s.wire := rfl
@[simp] theorem flush_readLog : (flush s).readLog = s.readLog := rfl

/-! `complete_ok()` (R83). -/

@[simp] theorem completeOk_cmdLatch : (completeOk s).cmdLatch = s.cmdLatch := rfl
@[simp] theorem completeOk_argLatch : (completeOk s).argLatch = s.argLatch := rfl
@[simp] theorem completeOk_seq : (completeOk s).seq = .idle := rfl
@[simp] theorem completeOk_idx : (completeOk s).idx = s.idx := rfl
@[simp] theorem completeOk_done : (completeOk s).done = true := rfl
@[simp] theorem completeOk_ok : (completeOk s).ok = true := rfl
@[simp] theorem completeOk_linkOpen : (completeOk s).linkOpen = s.linkOpen := rfl
@[simp] theorem completeOk_attempts : (completeOk s).attempts = s.attempts := rfl
@[simp] theorem completeOk_lastOpcode : (completeOk s).lastOpcode = s.lastOpcode := rfl
@[simp] theorem completeOk_debugEn : (completeOk s).debugEn = s.debugEn := rfl
@[simp] theorem completeOk_recoveryEn : (completeOk s).recoveryEn = s.recoveryEn := rfl
@[simp] theorem completeOk_linkBaud : (completeOk s).linkBaud = s.linkBaud := rfl
@[simp] theorem completeOk_linkFmt : (completeOk s).linkFmt = s.linkFmt := rfl
@[simp] theorem completeOk_raAddr : (completeOk s).raAddr = s.raAddr := rfl
@[simp] theorem completeOk_decAddr : (completeOk s).decAddr = s.decAddr := rfl
@[simp] theorem completeOk_activeSlave : (completeOk s).activeSlave = s.activeSlave := rfl
@[simp] theorem completeOk_moduleAddr : (completeOk s).moduleAddr = s.moduleAddr := rfl
@[simp] theorem completeOk_chPower : (completeOk s).chPower = s.chPower := rfl
@[simp] theorem completeOk_chDMinus : (completeOk s).chDMinus = s.chDMinus := rfl
@[simp] theorem completeOk_chDPlus : (completeOk s).chDPlus = s.chDPlus := rfl
@[simp] theorem completeOk_relayValid : (completeOk s).relayValid = s.relayValid := rfl
@[simp] theorem completeOk_hexHi : (completeOk s).hexHi = s.hexHi := rfl
@[simp] theorem completeOk_hexLo : (completeOk s).hexLo = s.hexLo := rfl
@[simp] theorem completeOk_lastErr : (completeOk s).lastErr = s.lastErr := rfl
@[simp] theorem completeOk_frame : (completeOk s).frame = s.frame := rfl
@[simp] theorem completeOk_flen : (completeOk s).flen = s.flen := rfl
@[simp] theorem completeOk_fc : (completeOk s).fc = s.fc := rfl
@[simp] theorem completeOk_rxb : (completeOk s).rxb = s.rxb := rfl
@[simp] theorem completeOk_rxn : (completeOk s).rxn = s.rxn := rfl
@[simp] theorem completeOk_rxl : (completeOk s).rxl = s.rxl := rfl
@[simp] theorem completeOk_rxq : (completeOk s).rxq = s.rxq := rfl
@[simp] theorem completeOk_rxqOvf : (completeOk s).rxqOvf = s.rxqOvf := rfl
@[simp] theorem completeOk_txPend : (completeOk s).txPend = s.txPend := rfl
@[simp] theorem completeOk_cnt : (completeOk s).cnt = s.cnt := rfl
@[simp] theorem completeOk_att : (completeOk s).att = s.att := rfl
@[simp] theorem completeOk_pendBaud : (completeOk s).pendBaud = s.pendBaud := rfl
@[simp] theorem completeOk_pendFmt : (completeOk s).pendFmt = s.pendFmt := rfl
@[simp] theorem completeOk_cfg : (completeOk s).cfg = s.cfg := rfl
@[simp] theorem completeOk_inputs : (completeOk s).inputs = s.inputs := rfl
@[simp] theorem completeOk_outputs : (completeOk s).outputs = s.outputs ++ [.done true] := rfl
@[simp] theorem completeOk_wire : (completeOk s).wire = s.wire := rfl
@[simp] theorem completeOk_readLog : (completeOk s).readLog = s.readLog := rfl

/-! `raise` (R130). -/

@[simp] theorem raise_cmdLatch : (raise cls cause d s).cmdLatch = s.cmdLatch := rfl
@[simp] theorem raise_argLatch : (raise cls cause d s).argLatch = s.argLatch := rfl
@[simp] theorem raise_seq : (raise cls cause d s).seq = .idle := rfl
@[simp] theorem raise_idx : (raise cls cause d s).idx = s.idx := rfl
@[simp] theorem raise_done : (raise cls cause d s).done = true := rfl
@[simp] theorem raise_ok : (raise cls cause d s).ok = false := rfl
@[simp] theorem raise_linkOpen : (raise cls cause d s).linkOpen = s.linkOpen := rfl
@[simp] theorem raise_attempts : (raise cls cause d s).attempts = s.attempts := rfl
@[simp] theorem raise_lastOpcode : (raise cls cause d s).lastOpcode = s.lastOpcode := rfl
@[simp] theorem raise_debugEn : (raise cls cause d s).debugEn = s.debugEn := rfl
@[simp] theorem raise_recoveryEn : (raise cls cause d s).recoveryEn = s.recoveryEn := rfl
@[simp] theorem raise_linkBaud : (raise cls cause d s).linkBaud = s.linkBaud := rfl
@[simp] theorem raise_linkFmt : (raise cls cause d s).linkFmt = s.linkFmt := rfl
@[simp] theorem raise_raAddr : (raise cls cause d s).raAddr = s.raAddr := rfl
@[simp] theorem raise_decAddr : (raise cls cause d s).decAddr = s.decAddr := rfl
@[simp] theorem raise_activeSlave : (raise cls cause d s).activeSlave = s.activeSlave := rfl
@[simp] theorem raise_moduleAddr : (raise cls cause d s).moduleAddr = s.moduleAddr := rfl
@[simp] theorem raise_chPower : (raise cls cause d s).chPower = s.chPower := rfl
@[simp] theorem raise_chDMinus : (raise cls cause d s).chDMinus = s.chDMinus := rfl
@[simp] theorem raise_chDPlus : (raise cls cause d s).chDPlus = s.chDPlus := rfl
@[simp] theorem raise_relayValid : (raise cls cause d s).relayValid = s.relayValid := rfl
@[simp] theorem raise_hexHi : (raise cls cause d s).hexHi = s.hexHi := rfl
@[simp] theorem raise_hexLo : (raise cls cause d s).hexLo = s.hexLo := rfl
@[simp] theorem raise_lastErr :
    (raise cls cause d s).lastErr = errWord (s.cmdLatch.extractLsb' 0 8) d (causeCode cause) (classCode cls) :=
  rfl
@[simp] theorem raise_frame : (raise cls cause d s).frame = s.frame := rfl
@[simp] theorem raise_flen : (raise cls cause d s).flen = s.flen := rfl
@[simp] theorem raise_fc : (raise cls cause d s).fc = s.fc := rfl
@[simp] theorem raise_rxb : (raise cls cause d s).rxb = s.rxb := rfl
@[simp] theorem raise_rxn : (raise cls cause d s).rxn = s.rxn := rfl
@[simp] theorem raise_rxl : (raise cls cause d s).rxl = s.rxl := rfl
@[simp] theorem raise_rxq : (raise cls cause d s).rxq = s.rxq := rfl
@[simp] theorem raise_rxqOvf : (raise cls cause d s).rxqOvf = s.rxqOvf := rfl
@[simp] theorem raise_txPend : (raise cls cause d s).txPend = s.txPend := rfl
@[simp] theorem raise_cnt : (raise cls cause d s).cnt = s.cnt := rfl
@[simp] theorem raise_att : (raise cls cause d s).att = s.att := rfl
@[simp] theorem raise_pendBaud : (raise cls cause d s).pendBaud = s.pendBaud := rfl
@[simp] theorem raise_pendFmt : (raise cls cause d s).pendFmt = s.pendFmt := rfl
@[simp] theorem raise_cfg : (raise cls cause d s).cfg = s.cfg := rfl
@[simp] theorem raise_inputs : (raise cls cause d s).inputs = s.inputs := rfl
@[simp] theorem raise_outputs : (raise cls cause d s).outputs = s.outputs ++ [.done false] := rfl
@[simp] theorem raise_wire : (raise cls cause d s).wire = s.wire := rfl
@[simp] theorem raise_readLog : (raise cls cause d s).readLog = s.readLog := rfl

/-! Acceptance (R81). -/

@[simp] theorem acceptCommand_cmdLatch : (acceptCommand w0 w1 s).cmdLatch = w0 := rfl
@[simp] theorem acceptCommand_argLatch : (acceptCommand w0 w1 s).argLatch = w1 := rfl
@[simp] theorem acceptCommand_seq : (acceptCommand w0 w1 s).seq = .dispatch := rfl
@[simp] theorem acceptCommand_idx : (acceptCommand w0 w1 s).idx = s.idx := rfl
@[simp] theorem acceptCommand_done : (acceptCommand w0 w1 s).done = false := rfl
@[simp] theorem acceptCommand_ok : (acceptCommand w0 w1 s).ok = false := rfl
@[simp] theorem acceptCommand_linkOpen : (acceptCommand w0 w1 s).linkOpen = s.linkOpen := rfl
@[simp] theorem acceptCommand_attempts : (acceptCommand w0 w1 s).attempts = 0 := rfl
@[simp] theorem acceptCommand_lastOpcode : (acceptCommand w0 w1 s).lastOpcode = w0.extractLsb' 0 8 := rfl
@[simp] theorem acceptCommand_debugEn : (acceptCommand w0 w1 s).debugEn = s.debugEn := rfl
@[simp] theorem acceptCommand_recoveryEn : (acceptCommand w0 w1 s).recoveryEn = s.recoveryEn := rfl
@[simp] theorem acceptCommand_linkBaud : (acceptCommand w0 w1 s).linkBaud = s.linkBaud := rfl
@[simp] theorem acceptCommand_linkFmt : (acceptCommand w0 w1 s).linkFmt = s.linkFmt := rfl
@[simp] theorem acceptCommand_raAddr : (acceptCommand w0 w1 s).raAddr = s.raAddr := rfl
@[simp] theorem acceptCommand_decAddr : (acceptCommand w0 w1 s).decAddr = s.decAddr := rfl
@[simp] theorem acceptCommand_activeSlave : (acceptCommand w0 w1 s).activeSlave = s.activeSlave := rfl
@[simp] theorem acceptCommand_moduleAddr : (acceptCommand w0 w1 s).moduleAddr = s.moduleAddr := rfl
@[simp] theorem acceptCommand_chPower : (acceptCommand w0 w1 s).chPower = s.chPower := rfl
@[simp] theorem acceptCommand_chDMinus : (acceptCommand w0 w1 s).chDMinus = s.chDMinus := rfl
@[simp] theorem acceptCommand_chDPlus : (acceptCommand w0 w1 s).chDPlus = s.chDPlus := rfl
@[simp] theorem acceptCommand_relayValid : (acceptCommand w0 w1 s).relayValid = s.relayValid := rfl
@[simp] theorem acceptCommand_hexHi : (acceptCommand w0 w1 s).hexHi = s.hexHi := rfl
@[simp] theorem acceptCommand_hexLo : (acceptCommand w0 w1 s).hexLo = s.hexLo := rfl
@[simp] theorem acceptCommand_lastErr : (acceptCommand w0 w1 s).lastErr = s.lastErr := rfl
@[simp] theorem acceptCommand_frame : (acceptCommand w0 w1 s).frame = s.frame := rfl
@[simp] theorem acceptCommand_flen : (acceptCommand w0 w1 s).flen = s.flen := rfl
@[simp] theorem acceptCommand_fc : (acceptCommand w0 w1 s).fc = s.fc := rfl
@[simp] theorem acceptCommand_rxb : (acceptCommand w0 w1 s).rxb = s.rxb := rfl
@[simp] theorem acceptCommand_rxn : (acceptCommand w0 w1 s).rxn = s.rxn := rfl
@[simp] theorem acceptCommand_rxl : (acceptCommand w0 w1 s).rxl = s.rxl := rfl
@[simp] theorem acceptCommand_rxq : (acceptCommand w0 w1 s).rxq = s.rxq := rfl
@[simp] theorem acceptCommand_rxqOvf : (acceptCommand w0 w1 s).rxqOvf = s.rxqOvf := rfl
@[simp] theorem acceptCommand_txPend : (acceptCommand w0 w1 s).txPend = s.txPend := rfl
@[simp] theorem acceptCommand_cnt : (acceptCommand w0 w1 s).cnt = s.cnt := rfl
@[simp] theorem acceptCommand_att : (acceptCommand w0 w1 s).att = 0 := rfl
@[simp] theorem acceptCommand_pendBaud : (acceptCommand w0 w1 s).pendBaud = s.pendBaud := rfl
@[simp] theorem acceptCommand_pendFmt : (acceptCommand w0 w1 s).pendFmt = s.pendFmt := rfl
@[simp] theorem acceptCommand_cfg : (acceptCommand w0 w1 s).cfg = s.cfg := rfl
@[simp] theorem acceptCommand_inputs : (acceptCommand w0 w1 s).inputs = s.inputs := rfl
@[simp] theorem acceptCommand_outputs : (acceptCommand w0 w1 s).outputs = s.outputs := rfl
@[simp] theorem acceptCommand_wire : (acceptCommand w0 w1 s).wire = s.wire := rfl
@[simp] theorem acceptCommand_readLog : (acceptCommand w0 w1 s).readLog = s.readLog := rfl

/-! A frame in `FRAME` (R26). -/

@[simp] theorem loadFrame_cmdLatch : (loadFrame bs n s).cmdLatch = s.cmdLatch := rfl
@[simp] theorem loadFrame_argLatch : (loadFrame bs n s).argLatch = s.argLatch := rfl
@[simp] theorem loadFrame_seq : (loadFrame bs n s).seq = s.seq := rfl
@[simp] theorem loadFrame_idx : (loadFrame bs n s).idx = s.idx := rfl
@[simp] theorem loadFrame_done : (loadFrame bs n s).done = s.done := rfl
@[simp] theorem loadFrame_ok : (loadFrame bs n s).ok = s.ok := rfl
@[simp] theorem loadFrame_linkOpen : (loadFrame bs n s).linkOpen = s.linkOpen := rfl
@[simp] theorem loadFrame_attempts : (loadFrame bs n s).attempts = s.attempts := rfl
@[simp] theorem loadFrame_lastOpcode : (loadFrame bs n s).lastOpcode = s.lastOpcode := rfl
@[simp] theorem loadFrame_debugEn : (loadFrame bs n s).debugEn = s.debugEn := rfl
@[simp] theorem loadFrame_recoveryEn : (loadFrame bs n s).recoveryEn = s.recoveryEn := rfl
@[simp] theorem loadFrame_linkBaud : (loadFrame bs n s).linkBaud = s.linkBaud := rfl
@[simp] theorem loadFrame_linkFmt : (loadFrame bs n s).linkFmt = s.linkFmt := rfl
@[simp] theorem loadFrame_raAddr : (loadFrame bs n s).raAddr = s.raAddr := rfl
@[simp] theorem loadFrame_decAddr : (loadFrame bs n s).decAddr = s.decAddr := rfl
@[simp] theorem loadFrame_activeSlave : (loadFrame bs n s).activeSlave = s.activeSlave := rfl
@[simp] theorem loadFrame_moduleAddr : (loadFrame bs n s).moduleAddr = s.moduleAddr := rfl
@[simp] theorem loadFrame_chPower : (loadFrame bs n s).chPower = s.chPower := rfl
@[simp] theorem loadFrame_chDMinus : (loadFrame bs n s).chDMinus = s.chDMinus := rfl
@[simp] theorem loadFrame_chDPlus : (loadFrame bs n s).chDPlus = s.chDPlus := rfl
@[simp] theorem loadFrame_relayValid : (loadFrame bs n s).relayValid = s.relayValid := rfl
@[simp] theorem loadFrame_hexHi : (loadFrame bs n s).hexHi = s.hexHi := rfl
@[simp] theorem loadFrame_hexLo : (loadFrame bs n s).hexLo = s.hexLo := rfl
@[simp] theorem loadFrame_lastErr : (loadFrame bs n s).lastErr = s.lastErr := rfl
@[simp] theorem loadFrame_frame : (loadFrame bs n s).frame = overwrite bs s.frame := rfl
@[simp] theorem loadFrame_flen : (loadFrame bs n s).flen = n := rfl
@[simp] theorem loadFrame_fc : (loadFrame bs n s).fc = s.fc := rfl
@[simp] theorem loadFrame_rxb : (loadFrame bs n s).rxb = s.rxb := rfl
@[simp] theorem loadFrame_rxn : (loadFrame bs n s).rxn = s.rxn := rfl
@[simp] theorem loadFrame_rxl : (loadFrame bs n s).rxl = s.rxl := rfl
@[simp] theorem loadFrame_rxq : (loadFrame bs n s).rxq = s.rxq := rfl
@[simp] theorem loadFrame_rxqOvf : (loadFrame bs n s).rxqOvf = s.rxqOvf := rfl
@[simp] theorem loadFrame_txPend : (loadFrame bs n s).txPend = s.txPend := rfl
@[simp] theorem loadFrame_cnt : (loadFrame bs n s).cnt = s.cnt := rfl
@[simp] theorem loadFrame_att : (loadFrame bs n s).att = s.att := rfl
@[simp] theorem loadFrame_pendBaud : (loadFrame bs n s).pendBaud = s.pendBaud := rfl
@[simp] theorem loadFrame_pendFmt : (loadFrame bs n s).pendFmt = s.pendFmt := rfl
@[simp] theorem loadFrame_cfg : (loadFrame bs n s).cfg = s.cfg := rfl
@[simp] theorem loadFrame_inputs : (loadFrame bs n s).inputs = s.inputs := rfl
@[simp] theorem loadFrame_outputs : (loadFrame bs n s).outputs = s.outputs := rfl
@[simp] theorem loadFrame_wire : (loadFrame bs n s).wire = s.wire := rfl
@[simp] theorem loadFrame_readLog : (loadFrame bs n s).readLog = s.readLog := rfl

/-! One byte answered by `TxAck` (R106, R123). -/

@[simp] theorem acknowledgeByte_cmdLatch : (acknowledgeByte s).cmdLatch = s.cmdLatch := rfl
@[simp] theorem acknowledgeByte_argLatch : (acknowledgeByte s).argLatch = s.argLatch := rfl
@[simp] theorem acknowledgeByte_seq : (acknowledgeByte s).seq = s.seq := rfl
@[simp] theorem acknowledgeByte_idx : (acknowledgeByte s).idx = s.idx + 1 := rfl
@[simp] theorem acknowledgeByte_done : (acknowledgeByte s).done = s.done := rfl
@[simp] theorem acknowledgeByte_ok : (acknowledgeByte s).ok = s.ok := rfl
@[simp] theorem acknowledgeByte_linkOpen : (acknowledgeByte s).linkOpen = s.linkOpen := rfl
@[simp] theorem acknowledgeByte_attempts : (acknowledgeByte s).attempts = s.attempts := rfl
@[simp] theorem acknowledgeByte_lastOpcode : (acknowledgeByte s).lastOpcode = s.lastOpcode := rfl
@[simp] theorem acknowledgeByte_debugEn : (acknowledgeByte s).debugEn = s.debugEn := rfl
@[simp] theorem acknowledgeByte_recoveryEn : (acknowledgeByte s).recoveryEn = s.recoveryEn := rfl
@[simp] theorem acknowledgeByte_linkBaud : (acknowledgeByte s).linkBaud = s.linkBaud := rfl
@[simp] theorem acknowledgeByte_linkFmt : (acknowledgeByte s).linkFmt = s.linkFmt := rfl
@[simp] theorem acknowledgeByte_raAddr : (acknowledgeByte s).raAddr = s.raAddr := rfl
@[simp] theorem acknowledgeByte_decAddr : (acknowledgeByte s).decAddr = s.decAddr := rfl
@[simp] theorem acknowledgeByte_activeSlave : (acknowledgeByte s).activeSlave = s.activeSlave := rfl
@[simp] theorem acknowledgeByte_moduleAddr : (acknowledgeByte s).moduleAddr = s.moduleAddr := rfl
@[simp] theorem acknowledgeByte_chPower : (acknowledgeByte s).chPower = s.chPower := rfl
@[simp] theorem acknowledgeByte_chDMinus : (acknowledgeByte s).chDMinus = s.chDMinus := rfl
@[simp] theorem acknowledgeByte_chDPlus : (acknowledgeByte s).chDPlus = s.chDPlus := rfl
@[simp] theorem acknowledgeByte_relayValid : (acknowledgeByte s).relayValid = s.relayValid := rfl
@[simp] theorem acknowledgeByte_hexHi : (acknowledgeByte s).hexHi = s.hexHi := rfl
@[simp] theorem acknowledgeByte_hexLo : (acknowledgeByte s).hexLo = s.hexLo := rfl
@[simp] theorem acknowledgeByte_lastErr : (acknowledgeByte s).lastErr = s.lastErr := rfl
@[simp] theorem acknowledgeByte_frame : (acknowledgeByte s).frame = s.frame := rfl
@[simp] theorem acknowledgeByte_flen : (acknowledgeByte s).flen = s.flen := rfl
@[simp] theorem acknowledgeByte_fc : (acknowledgeByte s).fc = s.fc := rfl
@[simp] theorem acknowledgeByte_rxb : (acknowledgeByte s).rxb = s.rxb := rfl
@[simp] theorem acknowledgeByte_rxn : (acknowledgeByte s).rxn = s.rxn := rfl
@[simp] theorem acknowledgeByte_rxl : (acknowledgeByte s).rxl = s.rxl := rfl
@[simp] theorem acknowledgeByte_rxq : (acknowledgeByte s).rxq = s.rxq := rfl
@[simp] theorem acknowledgeByte_rxqOvf : (acknowledgeByte s).rxqOvf = s.rxqOvf := rfl
@[simp] theorem acknowledgeByte_txPend : (acknowledgeByte s).txPend = false := rfl
@[simp] theorem acknowledgeByte_cnt : (acknowledgeByte s).cnt = s.cnt := rfl
@[simp] theorem acknowledgeByte_att : (acknowledgeByte s).att = s.att := rfl
@[simp] theorem acknowledgeByte_pendBaud : (acknowledgeByte s).pendBaud = s.pendBaud := rfl
@[simp] theorem acknowledgeByte_pendFmt : (acknowledgeByte s).pendFmt = s.pendFmt := rfl
@[simp] theorem acknowledgeByte_cfg : (acknowledgeByte s).cfg = s.cfg := rfl
@[simp] theorem acknowledgeByte_inputs : (acknowledgeByte s).inputs = s.inputs := rfl
@[simp] theorem acknowledgeByte_outputs : (acknowledgeByte s).outputs = s.outputs := rfl
@[simp] theorem acknowledgeByte_wire : (acknowledgeByte s).wire = s.wire ++ (s.frame[s.idx.toNat]?).toList := rfl
@[simp] theorem acknowledgeByte_readLog : (acknowledgeByte s).readLog = s.readLog := rfl

/-! `mux_select` (R102). -/

@[simp] theorem muxSelect_cmdLatch : (muxSelect a s).cmdLatch = s.cmdLatch := rfl
@[simp] theorem muxSelect_argLatch : (muxSelect a s).argLatch = s.argLatch := rfl
@[simp] theorem muxSelect_seq : (muxSelect a s).seq = s.seq := rfl
@[simp] theorem muxSelect_idx : (muxSelect a s).idx = s.idx := rfl
@[simp] theorem muxSelect_done : (muxSelect a s).done = s.done := rfl
@[simp] theorem muxSelect_ok : (muxSelect a s).ok = s.ok := rfl
@[simp] theorem muxSelect_linkOpen : (muxSelect a s).linkOpen = s.linkOpen := rfl
@[simp] theorem muxSelect_attempts : (muxSelect a s).attempts = s.attempts := rfl
@[simp] theorem muxSelect_lastOpcode : (muxSelect a s).lastOpcode = s.lastOpcode := rfl
@[simp] theorem muxSelect_debugEn : (muxSelect a s).debugEn = s.debugEn := rfl
@[simp] theorem muxSelect_recoveryEn : (muxSelect a s).recoveryEn = s.recoveryEn := rfl
@[simp] theorem muxSelect_linkBaud : (muxSelect a s).linkBaud = s.linkBaud := rfl
@[simp] theorem muxSelect_linkFmt : (muxSelect a s).linkFmt = s.linkFmt := rfl
@[simp] theorem muxSelect_raAddr : (muxSelect a s).raAddr = s.raAddr := rfl
@[simp] theorem muxSelect_decAddr : (muxSelect a s).decAddr = s.decAddr := rfl
@[simp] theorem muxSelect_activeSlave : (muxSelect a s).activeSlave = a := rfl
@[simp] theorem muxSelect_moduleAddr : (muxSelect a s).moduleAddr = s.moduleAddr := rfl
@[simp] theorem muxSelect_chPower : (muxSelect a s).chPower = s.chPower := rfl
@[simp] theorem muxSelect_chDMinus : (muxSelect a s).chDMinus = s.chDMinus := rfl
@[simp] theorem muxSelect_chDPlus : (muxSelect a s).chDPlus = s.chDPlus := rfl
@[simp] theorem muxSelect_relayValid : (muxSelect a s).relayValid = s.relayValid := rfl
@[simp] theorem muxSelect_hexHi : (muxSelect a s).hexHi = s.hexHi := rfl
@[simp] theorem muxSelect_hexLo : (muxSelect a s).hexLo = s.hexLo := rfl
@[simp] theorem muxSelect_lastErr : (muxSelect a s).lastErr = s.lastErr := rfl
@[simp] theorem muxSelect_frame : (muxSelect a s).frame = s.frame := rfl
@[simp] theorem muxSelect_flen : (muxSelect a s).flen = s.flen := rfl
@[simp] theorem muxSelect_fc : (muxSelect a s).fc = s.fc := rfl
@[simp] theorem muxSelect_rxb : (muxSelect a s).rxb = s.rxb := rfl
@[simp] theorem muxSelect_rxn : (muxSelect a s).rxn = s.rxn := rfl
@[simp] theorem muxSelect_rxl : (muxSelect a s).rxl = s.rxl := rfl
@[simp] theorem muxSelect_rxq : (muxSelect a s).rxq = s.rxq := rfl
@[simp] theorem muxSelect_rxqOvf : (muxSelect a s).rxqOvf = s.rxqOvf := rfl
@[simp] theorem muxSelect_txPend : (muxSelect a s).txPend = s.txPend := rfl
@[simp] theorem muxSelect_cnt : (muxSelect a s).cnt = s.cnt := rfl
@[simp] theorem muxSelect_att : (muxSelect a s).att = s.att := rfl
@[simp] theorem muxSelect_pendBaud : (muxSelect a s).pendBaud = s.pendBaud := rfl
@[simp] theorem muxSelect_pendFmt : (muxSelect a s).pendFmt = s.pendFmt := rfl
@[simp] theorem muxSelect_cfg : (muxSelect a s).cfg = s.cfg := rfl
@[simp] theorem muxSelect_inputs : (muxSelect a s).inputs = s.inputs := rfl
@[simp] theorem muxSelect_outputs : (muxSelect a s).outputs = s.outputs := rfl
@[simp] theorem muxSelect_wire : (muxSelect a s).wire = s.wire := rfl
@[simp] theorem muxSelect_readLog : (muxSelect a s).readLog = s.readLog := rfl

/-! Reset (R146). -/

@[simp] theorem resetBlock_cmdLatch : (resetBlock s).cmdLatch = (State.resetWith s.cfg).cmdLatch := rfl
@[simp] theorem resetBlock_argLatch : (resetBlock s).argLatch = (State.resetWith s.cfg).argLatch := rfl
@[simp] theorem resetBlock_seq : (resetBlock s).seq = (State.resetWith s.cfg).seq := rfl
@[simp] theorem resetBlock_idx : (resetBlock s).idx = (State.resetWith s.cfg).idx := rfl
@[simp] theorem resetBlock_done : (resetBlock s).done = (State.resetWith s.cfg).done := rfl
@[simp] theorem resetBlock_ok : (resetBlock s).ok = (State.resetWith s.cfg).ok := rfl
@[simp] theorem resetBlock_linkOpen : (resetBlock s).linkOpen = (State.resetWith s.cfg).linkOpen := rfl
@[simp] theorem resetBlock_attempts : (resetBlock s).attempts = (State.resetWith s.cfg).attempts := rfl
@[simp] theorem resetBlock_lastOpcode : (resetBlock s).lastOpcode = (State.resetWith s.cfg).lastOpcode := rfl
@[simp] theorem resetBlock_debugEn : (resetBlock s).debugEn = (State.resetWith s.cfg).debugEn := rfl
@[simp] theorem resetBlock_recoveryEn : (resetBlock s).recoveryEn = (State.resetWith s.cfg).recoveryEn := rfl
@[simp] theorem resetBlock_linkBaud : (resetBlock s).linkBaud = (State.resetWith s.cfg).linkBaud := rfl
@[simp] theorem resetBlock_linkFmt : (resetBlock s).linkFmt = (State.resetWith s.cfg).linkFmt := rfl
@[simp] theorem resetBlock_raAddr : (resetBlock s).raAddr = (State.resetWith s.cfg).raAddr := rfl
@[simp] theorem resetBlock_decAddr : (resetBlock s).decAddr = (State.resetWith s.cfg).decAddr := rfl
@[simp] theorem resetBlock_activeSlave : (resetBlock s).activeSlave = (State.resetWith s.cfg).activeSlave := rfl
@[simp] theorem resetBlock_moduleAddr : (resetBlock s).moduleAddr = (State.resetWith s.cfg).moduleAddr := rfl
@[simp] theorem resetBlock_chPower : (resetBlock s).chPower = (State.resetWith s.cfg).chPower := rfl
@[simp] theorem resetBlock_chDMinus : (resetBlock s).chDMinus = (State.resetWith s.cfg).chDMinus := rfl
@[simp] theorem resetBlock_chDPlus : (resetBlock s).chDPlus = (State.resetWith s.cfg).chDPlus := rfl
@[simp] theorem resetBlock_relayValid : (resetBlock s).relayValid = (State.resetWith s.cfg).relayValid := rfl
@[simp] theorem resetBlock_hexHi : (resetBlock s).hexHi = (State.resetWith s.cfg).hexHi := rfl
@[simp] theorem resetBlock_hexLo : (resetBlock s).hexLo = (State.resetWith s.cfg).hexLo := rfl
@[simp] theorem resetBlock_lastErr : (resetBlock s).lastErr = (State.resetWith s.cfg).lastErr := rfl
@[simp] theorem resetBlock_frame : (resetBlock s).frame = (State.resetWith s.cfg).frame := rfl
@[simp] theorem resetBlock_flen : (resetBlock s).flen = (State.resetWith s.cfg).flen := rfl
@[simp] theorem resetBlock_fc : (resetBlock s).fc = (State.resetWith s.cfg).fc := rfl
@[simp] theorem resetBlock_rxb : (resetBlock s).rxb = (State.resetWith s.cfg).rxb := rfl
@[simp] theorem resetBlock_rxn : (resetBlock s).rxn = (State.resetWith s.cfg).rxn := rfl
@[simp] theorem resetBlock_rxl : (resetBlock s).rxl = (State.resetWith s.cfg).rxl := rfl
@[simp] theorem resetBlock_rxq : (resetBlock s).rxq = (State.resetWith s.cfg).rxq := rfl
@[simp] theorem resetBlock_rxqOvf : (resetBlock s).rxqOvf = (State.resetWith s.cfg).rxqOvf := rfl
@[simp] theorem resetBlock_txPend : (resetBlock s).txPend = (State.resetWith s.cfg).txPend := rfl
@[simp] theorem resetBlock_cnt : (resetBlock s).cnt = (State.resetWith s.cfg).cnt := rfl
@[simp] theorem resetBlock_att : (resetBlock s).att = (State.resetWith s.cfg).att := rfl
@[simp] theorem resetBlock_pendBaud : (resetBlock s).pendBaud = (State.resetWith s.cfg).pendBaud := rfl
@[simp] theorem resetBlock_pendFmt : (resetBlock s).pendFmt = (State.resetWith s.cfg).pendFmt := rfl
@[simp] theorem resetBlock_cfg : (resetBlock s).cfg = s.cfg := rfl
@[simp] theorem resetBlock_inputs : (resetBlock s).inputs = s.inputs := rfl
@[simp] theorem resetBlock_outputs : (resetBlock s).outputs = s.outputs := rfl
@[simp] theorem resetBlock_wire : (resetBlock s).wire = s.wire := rfl
@[simp] theorem resetBlock_readLog : (resetBlock s).readLog = s.readLog := rfl

end Sys2Proof.Machine
end

