-- ==== Sys2Proof/Laws/Ops.lean ====
section
/-! SUPPORT. What each shared operation can do, said once: the lemmas a proof cites instead of unfolding it. -/

namespace Sys2Proof.Machine

/-! ## Bits, buffers and the CRC -/

theorem overwrite_toList {n : Nat} (bs : List Byte) (buf : Vector Byte n) :
    (overwrite bs buf).toList = bs.take n ++ buf.toList.drop bs.length := rfl

/-- The bytes written into a buffer are its first bytes. -/
theorem overwrite_take {n : Nat} (bs : List Byte) (buf : Vector Byte n) (h : bs.length ≤ n) :
    (overwrite bs buf).toList.take bs.length = bs := by
  rw [overwrite_toList, List.take_of_length_le h, List.take_left']
  rfl

/-- The bytes above those written keep their value (R26, log 12). -/
theorem overwrite_drop {n : Nat} (bs : List Byte) (buf : Vector Byte n) (h : bs.length ≤ n) :
    (overwrite bs buf).toList.drop bs.length = buf.toList.drop bs.length := by
  rw [overwrite_toList, List.take_of_length_le h, List.drop_left']
  rfl

theorem crc16_append (p : CrcPreset) (xs ys : List Byte) :
    crc16 p (xs ++ ys) = ys.foldl (crcByte p) (crc16 p xs) := by
  simp [crc16, List.foldl_append]

theorem isHexU_hexU (n : BitVec 4) : isHexU (hexU n) = true := by
  revert n
  decide

/-- The index R61 asks for is that of a set bit with none below it. -/
theorem lowestSetBit_eq_some (w : Word) (n : Nat) :
    lowestSetBit w = some n ↔ w.getLsbD n = true ∧ ∀ k < n, w.getLsbD k = false := by
  simp only [lowestSetBit, List.find?_range_eq_some]
  constructor
  · rintro ⟨h, -, hk⟩
    exact ⟨h, by simpa using hk⟩
  · rintro ⟨h, hk⟩
    exact ⟨h, by simpa using BitVec.lt_of_getLsbD h, by simpa using hk⟩

theorem lowestSetBit_eq_none (w : Word) : lowestSetBit w = none ↔ w = 0 := by
  simp only [lowestSetBit, List.find?_range_eq_none]
  constructor
  · intro h
    apply BitVec.eq_of_getLsbD_eq
    intro i hi
    simpa using h i hi
  · rintro rfl i _
    simp

/-- The index R109 asks for is the first at which the two sequences differ. -/
theorem firstDiff_eq_none (start : Nat) (as bs : List Byte) (h : as.length = bs.length) :
    firstDiff start as bs = none ↔ as = bs := by
  induction as generalizing start bs with
  | nil => cases bs <;> simp_all [firstDiff]
  | cons a as ih =>
    cases bs with
    | nil => simp at h
    | cons b bs =>
      by_cases hab : a = b
      · simp [firstDiff, hab, ih (start + 1) bs (by simpa using h)]
      · simp [firstDiff, hab]

/-! ## Output, recovery and the start of an attempt -/

theorem traceFrame_eq (s : State) :
    traceFrame s = { s with outputs := s.outputs ++ (if s.debugEn then [.trace (frameBytes s)] else []) } := by
  by_cases h : s.debugEn = true
  · rw [traceFrame, if_pos h, if_pos h]
    rfl
  · rw [traceFrame, if_neg h, if_neg h]
    simp

theorem recover_eq (s : State) :
    recover s = if s.recoveryEn then
      { s with rxq := [], rxqOvf := false, outputs := s.outputs ++ [.reinit, .flush] } else s := by
  unfold recover
  split <;> simp [flush, emit]

theorem startAttempt_eq (s : State) :
    startAttempt s = { s with
      idx := 0, rxn := 0, rxl := 0, rxqOvf := false, cnt := 0, attempts := s.att, seq := .mbTx
      outputs := s.outputs ++ (if s.debugEn then [.trace (frameBytes s)] else []) } := by
  unfold startAttempt
  rw [traceFrame_eq]
  rfl

/-- What a builder of R103 leaves. -/
theorem sendRequest_eq (body : List Byte) (len : BitVec 4) (c : Byte) (s : State) :
    sendRequest body len c s = startAttempt { s with
      frame := overwrite (body ++ crcBytes (crc16 s.cfg.crcPreset body)) s.frame, flen := len, fc := c, att := 1 } := rfl

/-- What `relay_send` leaves once its preconditions hold (R121). -/
theorem startRelay_eq (ch : BitVec 2) (st : Bool) (s : State) :
    startRelay ch st s = { s with
      frame := overwrite (adamBytes s.hexHi s.hexLo ch st) s.frame, flen := 8, att := 1, attempts := 1, idx := 0
      seq := .rlTx
      outputs := s.outputs ++
        (if s.debugEn then [.trace ((overwrite (adamBytes s.hexHi s.hexLo ch st) s.frame).toList.take 8)] else []) } := by
  unfold startRelay
  rw [traceFrame_eq]
  rfl

/-- A failed attempt (R111) either ends the command or starts the backoff. -/
theorem attemptFail_cases (c : Cause) (d : Byte) (s : State) :
    (s.att = 5 ∧ attemptFail c d s = raise .transmission c d (recover s)) ∨
      (s.att ≠ 5 ∧ attemptFail c d s = { recover s with cnt := 0, seq := .mbBackoff }) := by
  by_cases h : s.att = 5
  · exact .inl ⟨h, if_pos h⟩
  · exact .inr ⟨h, if_neg h⟩

/-! ## Reception -/

/-- R80: the queue never grows past its depth. -/
theorem receiveByte_cases (b : Byte) (err : Bool) (s : State) :
    (s.rxq.length < s.cfg.rxqDepth ∧ receiveByte b err s = { s with rxq := s.rxq ++ [{ byte := b, err := err }] }) ∨
      (s.cfg.rxqDepth ≤ s.rxq.length ∧ receiveByte b err s = { s with rxqOvf := true }) := by
  by_cases h : s.rxq.length < s.cfg.rxqDepth
  · exact .inl ⟨h, by simp [receiveByte, h]⟩
  · exact .inr ⟨by omega, by simp [receiveByte, h]⟩

theorem receiveByte_length_le (b : Byte) (err : Bool) (s : State) (h : s.rxq.length ≤ s.cfg.rxqDepth) :
    (receiveByte b err s).rxq.length ≤ (receiveByte b err s).cfg.rxqDepth := by
  obtain ⟨h1, h2⟩ | ⟨-, h2⟩ := receiveByte_cases b err s
  · simp only [h2, List.length_append, List.length_singleton]
    omega
  · simp only [h2]
    exact h

/-- R109: a whole response ends the attempt in failure, or the command in success. -/
theorem validateWhole_cases (L : Nat) (hL : L = 5 ∨ L = 8) (s : State) :
    (∃ c d, c ∈ [Cause.crcMismatch, .badSlave, .exception, .badEcho] ∧ validateWhole L hL s = attemptFail c d s) ∨
      (L = 8 ∧ validateWhole L hL s = completeOk s) := by
  unfold validateWhole
  dsimp only
  split
  · exact .inl ⟨.crcMismatch, _, by simp, rfl⟩
  · split
    · exact .inl ⟨.badSlave, _, by simp, rfl⟩
    · split
      · exact .inl ⟨.exception, _, by simp, rfl⟩
      · rename_i h5
        split
        · exact .inl ⟨.badEcho, _, by simp, rfl⟩
        · exact .inr ⟨by omega, rfl⟩

/-- R109 goes on only from a length R27 allows. -/
theorem validate_next {s t : State} (h : validate s = .next t) :
    ∃ hL : s.rxl.toNat = 5 ∨ s.rxl.toNat = 8, t = validateWhole s.rxl.toNat hL s := by
  unfold validate at h
  split at h
  · rename_i hL
    cases h
    exact ⟨hL, rfl⟩
  · cases h

theorem checkWhole_next {s t : State} (h : checkWhole s = .next t) :
    (s.rxl ≠ 0 ∧ s.rxn = s.rxl ∧ ∃ hL : s.rxl.toNat = 5 ∨ s.rxl.toNat = 8, t = validateWhole s.rxl.toNat hL s) ∨
      (¬ (s.rxl ≠ 0 ∧ s.rxn = s.rxl) ∧ t = s) := by
  unfold checkWhole at h
  split at h
  · rename_i hw
    exact .inl ⟨hw.1, hw.2, validate_next h⟩
  · rename_i hw
    cases h
    exact .inr ⟨hw, rfl⟩

theorem byteStored_next {b : Byte} {s t : State} (h : byteStored b s = .next t) :
    (s.rxn = 2 ∧ b = s.fc ∧ checkWhole { s with rxl := 8 } = .next t) ∨
    (s.rxn = 2 ∧ b ≠ s.fc ∧ b = exceptionFc s.fc ∧ checkWhole { s with rxl := 5 } = .next t) ∨
    (s.rxn = 2 ∧ b ≠ s.fc ∧ b ≠ exceptionFc s.fc ∧ t = attemptFail .badFunction b s) ∨
    (s.rxn ≠ 2 ∧ checkWhole s = .next t) := by
  unfold byteStored at h
  split at h
  · rename_i h2
    split at h
    · rename_i hb
      exact .inl ⟨h2, hb, h⟩
    · rename_i hb
      split at h
      · rename_i hx
        exact .inr (.inl ⟨h2, hb, hx, h⟩)
      · rename_i hx
        cases h
        exact .inr (.inr (.inl ⟨h2, hb, hx, rfl⟩))
  · rename_i h2
    exact .inr (.inr (.inr ⟨h2, h⟩))

/-- R108: what the receive step can do. -/
theorem mbReceive_next {s t : State} (h : mbReceive s = .next t) :
    (s.rxq = [] ∧ t = s) ∨
    ∃ e rest, s.rxq = e :: rest ∧
      (((e.err = true ∨ s.rxqOvf = true) ∧
          t = attemptFail .rxError (s.rxn.setWidth 8) { s with rxq := rest, cnt := 0 }) ∨
        (e.err = false ∧ s.rxqOvf = false ∧ ∃ hn : s.rxn.toNat < 8,
          byteStored e.byte { s with rxq := rest, cnt := 0, rxb := s.rxb.set s.rxn.toNat e.byte hn, rxn := s.rxn + 1 } =
            .next t)) := by
  unfold mbReceive at h
  split at h
  · rename_i hq
    cases h
    exact .inl ⟨hq, rfl⟩
  · rename_i e rest hq
    refine .inr ⟨e, rest, hq, ?_⟩
    dsimp only at h
    split at h
    · rename_i he
      cases h
      exact .inl ⟨by simpa using he, rfl⟩
    · rename_i he
      split at h
      · rename_i hn
        exact .inr ⟨by simp_all, by simp_all, hn, h⟩
      · cases h

/-! ## Waits -/

theorem mbRxTick_cases (s : State) :
    (s.rxq ≠ [] ∧ mbRxTick s = s) ∨
    (s.rxq = [] ∧ s.cnt + 1 = rxLimit s ∧
      mbRxTick s = attemptFail .timeout (s.rxn.setWidth 8) { s with cnt := s.cnt + 1 }) ∨
    (s.rxq = [] ∧ s.cnt + 1 ≠ rxLimit s ∧ mbRxTick s = { s with cnt := s.cnt + 1 }) := by
  by_cases hq : s.rxq = []
  · by_cases hc : s.cnt + 1 = rxLimit s
    · exact .inr (.inl ⟨hq, hc, by rw [mbRxTick, if_pos (by simp [hq]), if_pos hc]⟩)
    · exact .inr (.inr ⟨hq, hc, by rw [mbRxTick, if_pos (by simp [hq]), if_neg hc]⟩)
  · exact .inl ⟨hq, by simp [mbRxTick, hq]⟩

theorem backoffTick_cases (s : State) :
    (s.cnt + 1 = 150 ∧ backoffTick s = startAttempt { s with cnt := s.cnt + 1, att := s.att + 1 }) ∨
    (s.cnt + 1 ≠ 150 ∧ backoffTick s = { s with cnt := s.cnt + 1 }) := by
  by_cases h : s.cnt + 1 = 150
  · exact .inl ⟨h, if_pos h⟩
  · exact .inr ⟨h, if_neg h⟩

theorem settleTick_cases (s : State) :
    (s.cnt + 1 = 250 ∧ settleTick s = completeOk (flush { s with cnt := s.cnt + 1 })) ∨
    (s.cnt + 1 ≠ 250 ∧ settleTick s = { s with cnt := s.cnt + 1 }) := by
  by_cases h : s.cnt + 1 = 250
  · exact .inl ⟨h, if_pos h⟩
  · exact .inr ⟨h, if_neg h⟩

/-! ## Transmission -/

theorem mayTransmit_iff (s : State) : mayTransmit s = true ↔ (s.seq = .mbTx ∨ s.seq = .rlTx) ∧ s.txPend = false := by
  simp [mayTransmit, transmitting]

/-- What the offer of a byte can do (R105, R122). -/
theorem transmit_next {bs : List Byte} {s t : State} (h : transmit bs s = .next t) :
    (mayTransmit s = false ∧ t = s) ∨
    (mayTransmit s = true ∧ ∃ b, bs[s.idx.toNat]? = some b ∧
      t = { s with outputs := s.outputs ++ [.tx b], txPend := true }) := by
  unfold transmit at h
  split at h
  · rename_i hm
    split at h
    · rename_i b hb
      cases h
      exact .inr ⟨hm, b, hb, rfl⟩
    · cases h
  · rename_i hm
    cases h
    exact .inl ⟨by simpa using hm, rfl⟩

theorem mbTxAck_cases (s : State) :
    (s.idx + 1 = s.flen ∧ mbTxAck s = { acknowledgeByte s with cnt := 0, seq := .mbRx }) ∨
    (s.idx + 1 ≠ s.flen ∧ mbTxAck s = acknowledgeByte s) := by
  by_cases h : s.idx + 1 = s.flen
  · exact .inl ⟨h, if_pos h⟩
  · exact .inr ⟨h, if_neg h⟩

theorem rlTxAck_cases (s : State) :
    (s.idx + 1 = s.flen ∧ rlTxAck s = { acknowledgeByte s with cnt := 0, seq := .rlSettle }) ∨
    (s.idx + 1 ≠ s.flen ∧ rlTxAck s = acknowledgeByte s) := by
  by_cases h : s.idx + 1 = s.flen
  · exact .inl ⟨h, if_pos h⟩
  · exact .inr ⟨h, if_neg h⟩

/-! ## The shapes of the axis and the relay commands -/

theorem axisCommand_cases (addr which : Byte) (build : State → State) (s : State) :
    (∃ c, c ∈ [Cause.linkNotOpen, .addrUnconfigured] ∧ ∃ d, axisCommand addr which build s = raise .usage c d s) ∨
    (s.linkOpen = true ∧ addr ≠ 0 ∧ axisCommand addr which build s = build { s with activeSlave := addr }) := by
  unfold axisCommand
  split
  · exact .inl ⟨.linkNotOpen, by simp, 0, rfl⟩
  · rename_i h1
    split
    · exact .inl ⟨.addrUnconfigured, by simp, which, rfl⟩
    · rename_i h2
      exact .inr ⟨by simpa using h1, h2, rfl⟩

theorem relaySend_cases (ch : BitVec 2) (st : Bool) (s : State) :
    (∃ c, c ∈ [Cause.linkNotOpen, .relayUnconfigured, .channelOutOfRange] ∧ relaySend ch st s = raise .usage c 0 s) ∨
    (s.linkOpen = true ∧ s.relayValid = true ∧ ch ≤ channelMax ∧ relaySend ch st s = startRelay ch st s) := by
  unfold relaySend
  split
  · exact .inl ⟨.linkNotOpen, by simp, rfl⟩
  · rename_i h1
    split
    · exact .inl ⟨.relayUnconfigured, by simp, rfl⟩
    · rename_i h2
      split
      · exact .inl ⟨.channelOutOfRange, by simp, rfl⟩
      · rename_i h3
        exact .inr ⟨by simpa using h1, by simpa using h2, by simpa [BitVec.not_lt] using h3, rfl⟩

/-! ## Events -/

/-- The event taken is enabled, every one before it is not, and those stay. -/
theorem takeEnabled_eq_some {s : State} {es : List Event} {e : Event} {rest : List Event} :
    takeEnabled s es = some (e, rest) ↔
      ∃ pre post, es = pre ++ e :: post ∧ rest = pre ++ post ∧ enabled e s = true ∧ ∀ x ∈ pre, enabled x s = false := by
  induction es generalizing rest with
  | nil => simp [takeEnabled]
  | cons a as ih =>
    unfold takeEnabled
    split
    · rename_i ha
      constructor
      · intro h
        simp only [Option.some.injEq, Prod.mk.injEq] at h
        obtain ⟨rfl, rfl⟩ := h
        exact ⟨[], as, rfl, rfl, ha, by simp⟩
      · rintro ⟨pre, post, hes, rfl, he, hpre⟩
        cases pre with
        | nil => simp_all
        | cons p ps =>
          obtain ⟨rfl, rfl⟩ := by simpa using hes
          simp_all
    · rename_i ha
      simp only [Option.map_eq_some_iff, Prod.exists, Prod.mk.injEq]
      constructor
      · rintro ⟨e', r, h, rfl, rfl⟩
        obtain ⟨pre, post, rfl, rfl, he, hpre⟩ := ih.mp h
        exact ⟨a :: pre, post, rfl, rfl, he, by simpa [ha] using hpre⟩
      · rintro ⟨pre, post, hes, rfl, he, hpre⟩
        cases pre with
        | nil => simp_all
        | cons p ps =>
          obtain ⟨rfl, rfl⟩ := by simpa using hes
          exact ⟨e, ps ++ post, ih.mpr ⟨ps, post, rfl, rfl, he, fun x hx => hpre x (by simp [hx])⟩, rfl, rfl⟩

theorem takeEnabled_eq_none {s : State} {es : List Event} :
    takeEnabled s es = none ↔ ∀ x ∈ es, enabled x s = false := by
  induction es with
  | nil => simp [takeEnabled]
  | cons a as ih =>
    unfold takeEnabled
    split <;> simp_all

/-- The event of a step is enabled, and is the environment's or `Internal` (R73, R76). -/
theorem nextEvent_eq_some {s : State} {e : Event} {rest : List Event} (h : nextEvent s = some (e, rest)) :
    enabled e s = true ∧
      ((∃ pre post, s.inputs = pre ++ e :: post ∧ rest = pre ++ post ∧ ∀ x ∈ pre, enabled x s = false) ∨
        (e = .internal ∧ rest = s.inputs ∧ ∀ x ∈ s.inputs, enabled x s = false)) := by
  unfold nextEvent at h
  split at h
  · rename_i r hr
    cases h
    obtain ⟨pre, post, h1, h2, h3, h4⟩ := takeEnabled_eq_some.mp hr
    exact ⟨h3, .inl ⟨pre, post, h1, h2, h4⟩⟩
  · rename_i hn
    split at h
    · rename_i hi
      cases h
      exact ⟨hi, .inr ⟨rfl, rfl, takeEnabled_eq_none.mp hn⟩⟩
    · cases h

/-- The first event of the schedule, where it is enabled, is the event of the step. -/
theorem nextEvent_head {s : State} {e : Event} {rest : List Event} (h : s.inputs = e :: rest) (he : enabled e s = true) :
    nextEvent s = some (e, rest) := by
  simp [nextEvent, h, takeEnabled, he]

theorem step_head {s : State} {e : Event} {rest : List Event} (h : s.inputs = e :: rest) (he : enabled e s = true) :
    step s = handle e { s with inputs := rest } := by
  simp [step, nextEvent_head h he]

/-- What a step can do: nothing, where no event is enabled, or the response to the event taken (R75). -/
theorem step_cases {s t : State} (h : step s = .next t) :
    (nextEvent s = none ∧ t = s) ∨
    ∃ e rest, nextEvent s = some (e, rest) ∧ enabled e s = true ∧ handle e { s with inputs := rest } = .next t := by
  unfold step at h
  split at h
  · rename_i e rest hn
    exact .inr ⟨e, rest, hn, (nextEvent_eq_some hn).1, h⟩
  · rename_i hn
    cases h
    exact .inl ⟨hn, rfl⟩

theorem handleTick_mbRx {s : State} (h : s.seq = .mbRx) : handleTick s = mbRxTick s := by simp [handleTick, h]

theorem handleTick_mbBackoff {s : State} (h : s.seq = .mbBackoff) : handleTick s = backoffTick s := by
  simp [handleTick, h]

theorem handleTick_rlSettle {s : State} (h : s.seq = .rlSettle) : handleTick s = settleTick s := by
  simp [handleTick, h]

/-- R78: a tick changes nothing in the states that time nothing. -/
theorem handleTick_untimed {s : State} (h : s.seq ≠ .mbRx ∧ s.seq ≠ .mbBackoff ∧ s.seq ≠ .rlSettle) :
    handleTick s = s := by
  unfold handleTick
  split <;> simp_all

theorem handleTxAck_mbTx {s : State} (h : s.seq = .mbTx) : handleTxAck s = mbTxAck s := by simp [handleTxAck, h]

theorem handleTxAck_rlTx {s : State} (h : s.seq = .rlTx) : handleTxAck s = rlTxAck s := by simp [handleTxAck, h]

theorem handleTxFail_mbTx {s : State} (h : s.seq = .mbTx) : handleTxFail s = mbTxFail s := by simp [handleTxFail, h]

theorem handleTxFail_rlTx {s : State} (h : s.seq = .rlTx) : handleTxFail s = rlTxFail s := by simp [handleTxFail, h]

theorem handleInternal_dispatch {s : State} (h : s.seq = .dispatch) : handleInternal s = dispatchStep s := by
  simp [handleInternal, h]

theorem handleInternal_mbTx {s : State} (h : s.seq = .mbTx) : handleInternal s = transmitStep s := by
  simp [handleInternal, h]

theorem handleInternal_rlTx {s : State} (h : s.seq = .rlTx) : handleInternal s = transmitStep s := by
  simp [handleInternal, h]

theorem handleInternal_mbRx {s : State} (h : s.seq = .mbRx) : handleInternal s = mbReceive s := by
  simp [handleInternal, h]

/-- A dispatch step fails the command by R60 or R61, or runs the instruction that was latched (R82). -/
theorem dispatchStep_cases (s : State) :
    (opcodeOf? (opcodeField s.cmdLatch) = none ∧
      dispatchStep s = .next (raise .usage .reservedOpcode (opcodeField s.cmdLatch) s)) ∨
    ∃ o, opcodeOf? (opcodeField s.cmdLatch) = some o ∧
      ((∃ n, reservedBit (formatOf o) s.cmdLatch = some n ∧
          dispatchStep s = .next (raise .usage .reservedField (BitVec.ofNat 8 n) s)) ∨
        (reservedBit (formatOf o) s.cmdLatch = none ∧ dispatchStep s = exec (instrOf o s.cmdLatch s.argLatch) s)) := by
  cases ho : opcodeOf? (opcodeField s.cmdLatch) with
  | none => exact .inl ⟨rfl, by simp [dispatchStep, decode, decodeCommand, ho]⟩
  | some o =>
    refine .inr ⟨o, rfl, ?_⟩
    cases hr : reservedBit (formatOf o) s.cmdLatch with
    | some n => exact .inl ⟨n, rfl, by simp [dispatchStep, decode, decodeCommand, ho, hr]⟩
    | none => exact .inr ⟨rfl, by simp [dispatchStep, decode, decodeCommand, ho, hr]⟩

/-- Bytes that decode to an instruction are a frame of its bytes; the step then offers the byte at `IDX`. -/
theorem exec_of_decodeWire {bs : List Byte} {i : Instr} {s : State} (h : decode (.wire bs) = .instr i)
    (henc : encode i = .wire bs) : exec i s = transmit bs s := by
  cases i <;> simp_all [encode, exec, execWsrFrame, execWmrFrame, execAdamFrame]

end Sys2Proof.Machine

namespace Sys2Proof.Safety

open Sys2Proof.Machine

theorem run_succ_of_step {n : Nat} {s t : State} (h : step s = .next t) : run (n + 1) s = run n t := by
  simp [run, h]

theorem run_add {m n : Nat} {s t : State} (h : run m s = .next t) : run (m + n) s = run n t := by
  induction m generalizing s with
  | zero =>
    cases h
    simp
  | succ m ih =>
    rw [show m + 1 + n = (m + n) + 1 by omega]
    cases hs : step s with
    | next u =>
      rw [run_succ_of_step hs] at h ⊢
      exact ih h
    | fault f => simp [run, hs] at h
    | refused r => simp [run, hs] at h

end Sys2Proof.Safety
end

