-- ==== Sys2Proof/Laws/PerInstr.lean ====
section
/-! SUPPORT. The family EncodesItsRow: the words or bytes the encoder writes have the fixed bits and the zero reserved bits
of the instruction's row of spec/opcode_table.json. -/

namespace Sys2Proof.Laws

/-- A command's row: `match` under the mask 0x000000FF, and `reserved_mask` (R57, R59). -/
def commandRow (opc reserved : Word) (i : Instr) : Prop :=
  ∃ w0 w1, encode i = .command w0 w1 ∧ w0 &&& 0x000000FF = opc ∧ w0 &&& reserved = 0

/-- A frame's row: for each byte its fixed bits and their mask (R65, R66, R71). -/
def frameRow (row : List (Byte × Byte)) (i : Instr) : Prop :=
  ∃ bytes, encode i = .wire bytes ∧ bytes.length = row.length ∧ ∀ x ∈ bytes.zip row, x.1 &&& x.2.2 = x.2.1

/-- A byte with no fixed bit. -/
def anyByte : Byte × Byte := (0, 0)

/-- A byte that is fixed. -/
def theByte (b : Byte) : Byte × Byte := (b, 0xFF)

/-- The table's row of each instruction. -/
def EncodesItsRow.Statement (i : Instr) : Prop :=
  match i with
  | .linkOpen _ _ _ _ => commandRow 0x01 0xFFFC0C00 i
  | .linkClose => commandRow 0x02 0xFFFFFF00 i
  | .setDebug _ => commandRow 0x03 0xFFFFFE00 i
  | .setRecovery _ => commandRow 0x04 0xFFFFFE00 i
  | .cfgAxisAddr _ _ => commandRow 0x05 0xFF000000 i
  | .cfgRelay _ _ _ _ => commandRow 0x06 0xFFC00000 i
  | .setRaSpeed _ => commandRow 0x10 0xFFFFFF00 i
  | .setDecSpeed _ _ => commandRow 0x11 0xFFFFFF00 i
  | .stopDec => commandRow 0x12 0xFFFFFF00 i
  | .setRelay _ _ => commandRow 0x20 0xFFFFEC00 i
  | .powerOn => commandRow 0x21 0xFFFFFF00 i
  | .powerOff => commandRow 0x22 0xFFFFFF00 i
  | .dplusOn => commandRow 0x23 0xFFFFFF00 i
  | .dplusOff => commandRow 0x24 0xFFFFFF00 i
  | .dminusOn => commandRow 0x25 0xFFFFFF00 i
  | .dminusOff => commandRow 0x26 0xFFFFFF00 i
  | .read idx => encode i = .readPort idx
  | .wsrFrame _ _ _ =>
    frameRow [anyByte, theByte 0x06, theByte 0xF0, theByte 0x0B, anyByte, anyByte, anyByte, anyByte] i
  | .wmrFrame _ _ _ _ =>
    frameRow [anyByte, theByte 0x10, theByte 0x00, theByte 0x01, theByte 0x00, theByte 0x02, theByte 0x04, anyByte,
      anyByte, anyByte, anyByte, anyByte, anyByte] i
  | .adamFrame _ _ _ _ =>
    frameRow [theByte 0x23, anyByte, anyByte, theByte 0x31, (0x30, 0xFC), theByte 0x30, (0x30, 0xFE), theByte 0x0D] i

theorem EncodesItsRow.linkOpen (p : BitVec 2) (d : BitVec 4) (s : BitVec 2) (b : Word) :
    EncodesItsRow.Statement (.linkOpen p d s b) :=
  ⟨_, _, rfl, by decide +revert, by decide +revert⟩

theorem EncodesItsRow.linkClose : EncodesItsRow.Statement .linkClose := ⟨_, _, rfl, rfl, rfl⟩

theorem EncodesItsRow.setDebug (en : Bool) : EncodesItsRow.Statement (.setDebug en) :=
  ⟨_, _, rfl, by decide +revert, by decide +revert⟩

theorem EncodesItsRow.setRecovery (en : Bool) : EncodesItsRow.Statement (.setRecovery en) :=
  ⟨_, _, rfl, by decide +revert, by decide +revert⟩

theorem EncodesItsRow.cfgAxisAddr (ra dec : Byte) : EncodesItsRow.Statement (.cfgAxisAddr ra dec) := by
  refine ⟨_, _, rfl, ?_, ?_⟩ <;>
  · apply BitVec.eq_of_getLsbD_eq
    intro k hk
    simp only [BitVec.getLsbD_and, BitVec.getLsbD_append]
    interval_cases k <;> simp

theorem EncodesItsRow.cfgRelay (m : Byte) (cp cm cd : BitVec 2) : EncodesItsRow.Statement (.cfgRelay m cp cm cd) := by
  refine ⟨_, _, rfl, ?_, ?_⟩ <;>
  · apply BitVec.eq_of_getLsbD_eq
    intro k hk
    simp only [BitVec.getLsbD_and, BitVec.getLsbD_append]
    interval_cases k <;> simp

theorem EncodesItsRow.setRaSpeed (v : Half) : EncodesItsRow.Statement (.setRaSpeed v) := ⟨_, _, rfl, rfl, rfl⟩

theorem EncodesItsRow.setDecSpeed (v d : Half) : EncodesItsRow.Statement (.setDecSpeed v d) := ⟨_, _, rfl, rfl, rfl⟩

theorem EncodesItsRow.stopDec : EncodesItsRow.Statement .stopDec := ⟨_, _, rfl, rfl, rfl⟩

theorem EncodesItsRow.setRelay (ch : BitVec 2) (st : Bool) : EncodesItsRow.Statement (.setRelay ch st) :=
  ⟨_, _, rfl, by decide +revert, by decide +revert⟩

theorem EncodesItsRow.powerOn : EncodesItsRow.Statement .powerOn := ⟨_, _, rfl, rfl, rfl⟩

theorem EncodesItsRow.powerOff : EncodesItsRow.Statement .powerOff := ⟨_, _, rfl, rfl, rfl⟩

theorem EncodesItsRow.dplusOn : EncodesItsRow.Statement .dplusOn := ⟨_, _, rfl, rfl, rfl⟩

theorem EncodesItsRow.dplusOff : EncodesItsRow.Statement .dplusOff := ⟨_, _, rfl, rfl, rfl⟩

theorem EncodesItsRow.dminusOn : EncodesItsRow.Statement .dminusOn := ⟨_, _, rfl, rfl, rfl⟩

theorem EncodesItsRow.dminusOff : EncodesItsRow.Statement .dminusOff := ⟨_, _, rfl, rfl, rfl⟩

theorem EncodesItsRow.read (idx : Byte) : EncodesItsRow.Statement (.read idx) := rfl

theorem EncodesItsRow.wsrFrame (a : Byte) (v c : Half) : EncodesItsRow.Statement (.wsrFrame a v c) := by
  refine ⟨_, rfl, rfl, ?_⟩
  simp [Machine.wsrBytes, Machine.wsrBody, Machine.fieldBytes, Machine.crcBytes, anyByte, theByte, Machine.fcWsr,
    Machine.hi8, Machine.lo8, raReg]

theorem EncodesItsRow.wmrFrame (a : Byte) (d v c : Half) : EncodesItsRow.Statement (.wmrFrame a d v c) := by
  refine ⟨_, rfl, rfl, ?_⟩
  simp [Machine.wmrBytes, Machine.wmrBody, Machine.fieldBytes, Machine.crcBytes, anyByte, theByte, Machine.fcWmr,
    Machine.hi8, Machine.lo8, decReg, decQty]

theorem EncodesItsRow.adamFrame (h l : Byte) (k : BitVec 2) (s : Bool) : EncodesItsRow.Statement (.adamFrame h l k s) := by
  refine ⟨_, rfl, rfl, ?_⟩
  simp [Machine.adamBytes, anyByte, theByte, Machine.channelDigit, Machine.stateDigit]
  decide +revert

end Sys2Proof.Laws
end

