-- ==== Sys2Proof/Tests/Slice0.lean ====
section
/-! SUPPORT. Tests. Expected values come from spec/95_test_vectors.md (the part is named) or are written out bit by bit from
spec/30_encoding.md. After them, one witness for each statement that has hypotheses. -/

namespace Sys2Proof.Tests

open Sys2Proof.Machine Sys2Proof.Safety Sys2Proof.Claims

/-! ## Small states -/

/-- The state a step leads to, if it goes on. -/
def after (r : Result) : Option State :=
  match r with
  | .next t => some t
  | _ => none

/-- The same, for states a test builds by a step that goes on. -/
def thenState (r : Result) : State := (after r).getD State.reset

/-- An idle block on an open 8N1 link at 9600 baud, axes 1 and 2, relay module 26 (program P3's configuration). -/
def ready : State :=
  { State.reset with
    linkOpen := true, linkBaud := 9600, linkFmt := 0x180, raAddr := 1, decAddr := 2
    moduleAddr := 26, relayValid := true, hexHi := 0x31, hexLo := 0x41 }

/-- A block that has just accepted a command. -/
def accepted (w0 w1 : Word) (s : State) : State := acceptCommand w0 w1 s

/-- What a dispatch step answers: STATUS, LAST_ERR and the outputs. -/
def seen (s : State) : Option (Word × Word × List Output) :=
  (after (step s)).map (fun t => (readReg 0 t, readReg 1 t, t.outputs))

/-- The frame a dispatch step leaves in the frame buffer. -/
def built (s : State) : Option (List Byte) := (after (step s)).map frameBytes

/-- The bytes of SET_RA_SPEED 5000 to slave 1 (part 2.1). -/
def raFrame : List Byte := [0x01, 0x06, 0xF0, 0x0B, 0x13, 0x88, 0xC6, 0x5E]

/-- The bytes of SET_DEC_SPEED dir 1, speed 5000 to slave 2 (part 2.1). -/
def decFrame : List Byte := [0x02, 0x10, 0x00, 0x01, 0x00, 0x02, 0x04, 0x00, 0x01, 0x13, 0x88, 0x61, 0xB1]

/-- The relay frame of E1. -/
def relayFrame : List Byte := [0x23, 0x31, 0x41, 0x31, 0x31, 0x30, 0x31, 0x0D]

/-- SET_RA_SPEED 5000 in MB_TX, no byte offered yet. -/
def raTx : State := thenState (step (accepted 0x10 0x1388 ready))

/-- SET_DEC_SPEED dir 1, speed 5000 in MB_TX. -/
def decTx : State := thenState (step (accepted 0x11 0x00011388 ready))

/-- DPLUS_ON in RL_TX. -/
def rlTx : State := thenState (step (accepted 0x23 0 ready))

/-- SET_RA_SPEED 5000 in MB_RX, its eight bytes sent. -/
def raRx : State := { raTx with seq := .mbRx, idx := 8 }

/-- LINK_OPEN 8N1 9600 in OPEN_WAIT. -/
def opening : State := thenState (step (accepted 0x00018001 0x2580 State.reset))

/-! ## WellFormed: one ill-formed term for each check -/

theorem test_wf_wsr : (Instr.wsrFrame 1 5000 0x5EC6).wf .modbus = true := by decide +kernel
theorem test_wf_wsr_slave_zero : (Instr.wsrFrame 0 5000 (crc16 .modbus (wsrBody 0 5000))).wf .modbus = false := by decide
theorem test_wf_wsr_slave_248 : (Instr.wsrFrame 248 5000 (crc16 .modbus (wsrBody 248 5000))).wf .modbus = false := by decide
theorem test_wf_wsr_crc : (Instr.wsrFrame 1 5000 0x5EC7).wf .modbus = false := by decide +kernel
theorem test_wf_wmr : (Instr.wmrFrame 2 1 5000 0xB161).wf .modbus = true := by decide +kernel
theorem test_wf_wmr_slave_zero : (Instr.wmrFrame 0 1 5000 (crc16 .modbus (wmrBody 0 1 5000))).wf .modbus = false := by decide
theorem test_wf_wmr_crc : (Instr.wmrFrame 2 1 5000 0xD42F).wf .modbus = false := by decide +kernel
theorem test_wf_adam : (Instr.adamFrame 0x31 0x41 1 true).wf .modbus = true := by decide
theorem test_wf_adam_first_digit : (Instr.adamFrame 0x3A 0x41 1 true).wf .modbus = false := by decide
theorem test_wf_adam_second_digit : (Instr.adamFrame 0x31 0x61 1 true).wf .modbus = false := by decide
theorem test_wf_adam_channel : (Instr.adamFrame 0x31 0x41 3 true).wf .modbus = false := by decide
theorem test_wf_params : Config.suggested.wf = true ∧ { Config.suggested with respTimeoutTicks := 0 }.wf = false ∧
    { Config.suggested with byteTimeoutTicks := 0 }.wf = false ∧ { Config.suggested with rxqDepth := 7 }.wf = false := by
  decide

/-! ## Decoding: words of part 2.2, and frames of parts 2.1 and 2.6 -/

theorem test_decode_linkOpen : decode (.command 0x00027101 0x00004B00) = .instr (.linkOpen 1 7 2 19200) := by decide
theorem test_decode_linkOpen_odd : decode (.command 0x00018201 0x0001C200) = .instr (.linkOpen 2 8 1 115200) := by decide
theorem test_decode_linkClose : decode (.command 0x00000002 0xFFFFFFFF) = .instr .linkClose := by decide
theorem test_decode_setDebug : decode (.command 0x00000103 7) = .instr (.setDebug true) := by decide
theorem test_decode_setRecovery : decode (.command 0x00000004 0) = .instr (.setRecovery false) := by decide
theorem test_decode_cfgAxisAddr : decode (.command 0x00020105 0) = .instr (.cfgAxisAddr 1 2) := by decide
theorem test_decode_cfgRelay : decode (.command 0x0006AB06 0) = .instr (.cfgRelay 0xAB 2 1 0) := by decide
theorem test_decode_setRaSpeed : decode (.command 0x00000010 0xFFFF1388) = .instr (.setRaSpeed 5000) := by decide
theorem test_decode_setDecSpeed : decode (.command 0x00000011 0x00011388) = .instr (.setDecSpeed 5000 1) := by decide
theorem test_decode_stopDec : decode (.command 0x00000012 9) = .instr .stopDec := by decide
theorem test_decode_setRelay : decode (.command 0x00000220 0) = .instr (.setRelay 2 false) := by decide
theorem test_decode_powerOn : decode (.command 0x00000021 0) = .instr .powerOn := by decide
theorem test_decode_powerOff : decode (.command 0x00000022 0) = .instr .powerOff := by decide
theorem test_decode_dplusOn : decode (.command 0x00000023 0) = .instr .dplusOn := by decide
theorem test_decode_dplusOff : decode (.command 0x00000024 0) = .instr .dplusOff := by decide
theorem test_decode_dminusOn : decode (.command 0x00000025 0) = .instr .dminusOn := by decide
theorem test_decode_dminusOff : decode (.command 0x00000026 0) = .instr .dminusOff := by decide
theorem test_decode_read : decode (.readPort 0x0A) = .instr (.read 10) := by decide
theorem test_decode_wsr : decode (.wire raFrame) = .instr (.wsrFrame 1 5000 0x5EC6) := by decide
theorem test_decode_wmr : decode (.wire decFrame) = .instr (.wmrFrame 2 1 5000 0xB161) := by decide
theorem test_decode_adam : decode (.wire relayFrame) = .instr (.adamFrame 0x31 0x41 1 true) := by decide
theorem test_decode_reserved_opcode : decode (.command 0x00000107 0) = .reservedOpcode 7 := by decide
theorem test_decode_reserved_field : decode (.command 0x00018C01 0) = .reservedField 10 := by decide
theorem test_decode_no_frame : decode (.wire [0x01, 0x03, 0x00]) = .notAFrame := by decide
theorem test_table_word_command : decodeTableWord 32 0x00000010 = some (.setRaSpeed 0) := by decide
theorem test_table_word_read : decodeTableWord 8 0x0A = some (.read 10) := by decide
theorem test_table_word_frame : decodeTableWord 64 0x5EC688130BF00601 = some (.wsrFrame 1 5000 0x5EC6) := by decide
theorem test_asm : (Instr.setRelay 1 true).asm = some "SET_RELAY ch=1, st=on" := by decide

/-! ## The CRC engine, part 2.1 -/

theorem test_crc_modbus : crc16 .modbus [0x31, 0x32, 0x33, 0x34, 0x35, 0x36, 0x37, 0x38, 0x39] = 0x4B37 := by decide +kernel
theorem test_crc_ccitt : crc16 .ccittFalse [0x31, 0x32, 0x33, 0x34, 0x35, 0x36, 0x37, 0x38, 0x39] = 0x29B1 := by decide +kernel

/-! ## One step of each instruction -/

theorem test_linkOpen : seen (accepted 0x00027101 0x00004B00 State.reset) = some (0x101, 0, [.openLink 19200 0x271]) := by
  decide
theorem test_linkOpen_order : seen (accepted 0x00008301 0 State.reset) = some (0x102, 0x01010101, [.done false]) := by decide
theorem test_linkClose : seen (accepted 2 0 ready) = some (0x206, 0, [.flush, .close, .done true]) := by decide
theorem test_linkClose_closed : seen (accepted 2 0 State.reset) = some (0x206, 0, [.done true]) := by decide
theorem test_setDebug : (after (step (accepted 0x103 0 State.reset))).map (readReg 2) = some 1 := by decide
theorem test_setRecovery : (after (step (accepted 0x104 0 State.reset))).map (readReg 2) = some 2 := by decide
theorem test_cfgAxisAddr : (after (step (accepted 0x00F7F705 0 State.reset))).map (readReg 5) = some 0xF7F7 := by decide
theorem test_cfgAxisAddr_248 : seen (accepted 0x0002F805 0 State.reset) = some (0x502, 0x05F83304, [.done false]) := by decide
theorem test_cfgRelay : (after (step (accepted 0x0006AB06 0 State.reset))).map (fun t => (readReg 7 t, readReg 8 t)) =
    some (0x86AB, 0x4241) := by decide
theorem test_cfgRelay_channel : seen (accepted 0x00381A06 0 State.reset) = some (0x602, 0x06033504, [.done false]) := by decide
theorem test_setRaSpeed : built (accepted 0x10 0x1388 ready) = some raFrame := by decide +kernel
theorem test_setRaSpeed_closed : seen (accepted 0x10 0x1388 State.reset) = some (0x1002, 0x10003004, [.done false]) := by decide
theorem test_setDecSpeed : built (accepted 0x11 0x00011388 ready) = some decFrame := by decide +kernel
theorem test_stopDec : built (accepted 0x12 0 ready) =
    some [0x02, 0x10, 0x00, 0x01, 0x00, 0x02, 0x04, 0x00, 0x00, 0x00, 0x00, 0x3D, 0x27] := by decide +kernel
theorem test_setRelay : built (accepted 0x1220 0 ready) = some [0x23, 0x31, 0x41, 0x31, 0x32, 0x30, 0x31, 0x0D] := by decide
theorem test_setRelay_channel : seen (accepted 0x1320 0 ready) = some (0x200A, 0x20003504, [.done false]) := by decide
theorem test_powerOn : built (accepted 0x21 0 ready) = some [0x23, 0x31, 0x41, 0x31, 0x30, 0x30, 0x31, 0x0D] := by decide
theorem test_powerOff : built (accepted 0x22 0 ready) = some [0x23, 0x31, 0x41, 0x31, 0x30, 0x30, 0x30, 0x0D] := by decide
theorem test_dplusOn : built (accepted 0x23 0 ready) = some relayFrame := by decide
theorem test_dplusOff : built (accepted 0x24 0 ready) = some [0x23, 0x31, 0x41, 0x31, 0x31, 0x30, 0x30, 0x0D] := by decide
theorem test_dminusOn : built (accepted 0x25 0 ready) = some [0x23, 0x31, 0x41, 0x31, 0x32, 0x30, 0x31, 0x0D] := by decide
theorem test_dminusOff : built (accepted 0x26 0 ready) = some [0x23, 0x31, 0x41, 0x31, 0x32, 0x30, 0x30, 0x0D] := by decide
theorem test_read : (after (step { ready with inputs := [.hostRead 7, .tick] })).map (·.readLog) = some [(7, 0x981A)] := by
  decide
theorem test_wsrFrame : (after (step raTx)).map (fun t => (t.outputs, t.txPend)) = some ([.tx 0x01], true) := by decide
theorem test_wmrFrame : (after (step { decTx with idx := 12 })).map (·.outputs) = some [.tx 0xB1] := by decide +kernel
theorem test_adamFrame : (after (step { rlTx with idx := 7 })).map (·.outputs) = some [.tx 0x0D] := by decide
theorem test_reserved_opcode : seen (accepted 0x00000013 0 State.reset) = some (0x1302, 0x13133604, [.done false]) := by decide
theorem test_reserved_field : seen (accepted 0x00581A06 0 State.reset) = some (0x602, 0x06163704, [.done false]) := by decide

/-! ## One step of the rest of the cycle -/

theorem test_openOk : seen { opening with inputs := [.openOk] } =
    some (0x10E, 0, [.openLink 9600 0x180, .flush, .done true]) := by decide
theorem test_openFail : seen { opening with inputs := [.openFail 5] } =
    some (0x102, 0x01050201, [.openLink 9600 0x180, .done false]) := by decide
theorem test_shortWrite : seen { rlTx with idx := 3, txPend := true, inputs := [.txFail] } =
    some (0x231A, 0x23032003, [.done false]) := by decide
theorem test_rxError_fifth_attempt :
    seen { raRx with att := 5, attempts := 5, rxn := 1, rxq := [{ byte := 6, err := true }] } =
      some (0x105A, 0x10011202, [.done false]) := by decide
theorem test_queue_overflow : (after (step { raRx with rxq := List.replicate 16 { byte := 1, err := false }, inputs := [.rxByte 0 false] })).map
    (fun t => (t.rxq.length, t.rxqOvf)) = some (16, true) := by decide

/-! ## Places the step fetches from: the first instruction after reset -/

theorem test_fetch_command : (after (step (State.reset.withFetchWord 32 0x00000103))).map (readReg 0) = some 0x306 := by decide
theorem test_fetch_read : (after (step (State.reset.withFetchWord 8 0x08))).map (·.readLog) = some [(8, 0x3030)] := by decide
theorem test_fetch_frame : (after (step (State.reset.withFetchWord 64 0x0D31303131413123))).map (·.outputs) = some [.tx 0x23] := by
  decide

/-! ## Witnesses: for each statement with hypotheses, states and operands that meet them, clause by clause -/

/-- The next event is not a Reset where it is another one. -/
theorem not_reset {s : State} {e : Event} {rest : List Event} (h : nextEvent s = some (e, rest)) (he : e ≠ .reset) :
    ¬ resetIsNext s := by
  rintro ⟨r, hr⟩
  rw [h] at hr
  cases hr
  exact he rfl

theorem inv_ready : Inv ready :=
  by constructor <;> decide

theorem inv_raTx : Inv raTx :=
  by constructor <;> decide +kernel

/-- A frame, a command with ignored bits set, and one whose whole second word is read. -/
theorem witness_DecodedBitsAreReencoded :
    decode (.wire decFrame) = .instr (.wmrFrame 2 1 5000 0xB161) ∧
      decode (.command 0x00000010 0xFFFF1388) = .instr (.setRaSpeed 5000) ∧
      (0xFFFF1388 : Word) &&& readMask .sr = 0x1388 ∧
      decode (.command 0x00000011 0xFFFF1388) = .instr (.setDecSpeed 5000 0xFFFF) := by
  decide

/-- A state with the invariant, and one that a LINK_OPEN leaves in OPEN_WAIT. -/
theorem witness_ReadMapGivesEveryField :
    Inv ready ∧ ∃ u, exec (.linkOpen 2 5 1 1) State.reset = .next u ∧ u.seq = .openWait :=
  ⟨inv_ready, ⟨_, rfl, by decide⟩⟩

/-- The bounds of the four ranges of R60. -/
theorem witness_ReservedOpcodeIsRefused : ∀ b ∈ ([0x00, 0x07, 0x0F, 0x13, 0x1F, 0x27, 0xFF] : List Byte),
    let s := accepted (b.setWidth 32) 0 ready
    s.seq = .dispatch ∧ nextEvent s = some (.internal, []) ∧ reservedOpcode (opcodeOf s) := by
  unfold reservedOpcode
  decide

/-- The lowest and the highest reserved bit of a format N word. -/
theorem witness_ReservedFieldIsRefused : ∀ x ∈ [(0x00000102, 8), (0x80000002, 31)],
    let s := accepted x.1 0 ready
    s.seq = .dispatch ∧ nextEvent s = some (.internal, []) ∧ opcodeOf? (opcodeOf s) = some .linkClose ∧
      (s.cmdLatch &&& reservedMask (formatOf .linkClose)).getLsbD x.2 = true ∧
      ∀ k < x.2, (s.cmdLatch &&& reservedMask (formatOf .linkClose)).getLsbD k = false := by
  decide

theorem witness_IgnoredFieldsHaveNoEffect :
    (opcodeOf? (opcodeField 0x103) = some .setDebug ∧ formatOf .setDebug ≠ .lk ∧ formatOf .setDebug ≠ .sr ∧
      formatOf .setDebug ≠ .sd) ∧
    (opcodeOf? (opcodeField 0x10) = some .setRaSpeed ∧
      (0xFFFF1388 : Word).extractLsb' 0 16 = (0x1388 : Word).extractLsb' 0 16) := by
  decide

/-- A command, a frame and a read. -/
theorem witness_StepRunsTheDecodedInstruction :
    (nextEvent (accepted 0x10 0x1388 ready) = some (.internal, []) ∧
      fetch .internal (accepted 0x10 0x1388 ready) = some (.command 0x10 0x1388) ∧
      decode (.command 0x10 0x1388) = .instr (.setRaSpeed 5000)) ∧
    (nextEvent raTx = some (.internal, []) ∧ fetch .internal raTx = some (.wire raFrame) ∧
      decode (.wire raFrame) = .instr (.wsrFrame 1 5000 0x5EC6)) ∧
    (nextEvent { ready with inputs := [.hostRead 255] } = some (.hostRead 255, []) ∧
      fetch (.hostRead 255) ready = some (.readPort 255) ∧ decode (.readPort 255) = .instr (.read 255)) := by
  decide +kernel

theorem witness_DisabledEventsAreHeld :
    (let s : State := { ready with inputs := [.txAck, .openOk, .tick, .txFail] };
      s.inputs = [.txAck, .openOk] ++ .tick :: [.txFail] ∧ (∀ x ∈ [Event.txAck, .openOk], enabled x s = false) ∧
        enabled .tick s = true) ∧
    (∀ x ∈ ({ ready with inputs := [.txAck] } : State).inputs, enabled x ready = false) ∧
    (∀ x ∈ ({ accepted 2 0 ready with inputs := [.hostCmd 2 0] } : State).inputs, enabled x (accepted 2 0 ready) = false) := by
  decide

theorem witness_IdleBlockAcceptsCommand :
    ready.seq = .idle ∧ ({ ready with inputs := [.hostCmd 2 0] } : State).inputs = .hostCmd 2 0 :: [] := by
  decide

theorem witness_BusyBlockHoldsCommands :
    let s : State := { raTx with inputs := [.hostCmd 2 0, .tick] }
    s.seq ≠ .idle ∧ (∃ t, step s = .next t) ∧ ¬ resetIsNext s :=
  ⟨by decide +kernel, ⟨_, rfl⟩, not_reset (e := .tick) (rest := [.hostCmd 2 0]) (by decide +kernel) (by decide)⟩

/-- A queue with one place left, and a full one. -/
theorem witness_ReceivedByteIsQueuedOrLost : ∀ n ∈ [15, 16],
    let s : State := { ready with rxq := List.replicate n { byte := 1, err := false }, inputs := [.rxByte 2 true] }
    s.inputs = .rxByte 2 true :: [] ∧ (decide (s.rxq.length < s.cfg.rxqDepth) = decide (n = 15)) := by
  decide

theorem witness_UntimedTickChangesNothing :
    (({ ready with inputs := [.tick] } : State).inputs = .tick :: [] ∧ ready.seq ≠ .mbRx ∧ ready.seq ≠ .mbBackoff ∧
      ready.seq ≠ .rlSettle) ∧
    (let s : State := { ready with seq := .mbRx, rxq := [{ byte := 1, err := false }], inputs := [.tick] };
      s.inputs = .tick :: [] ∧ s.seq = .mbRx ∧ s.rxq ≠ []) := by
  decide

theorem witness_ResetGivesResetValues : ({ ready with inputs := [.reset] } : State).inputs = .reset :: [] := rfl

theorem witness_ReadHasNoSideEffect : ({ ready with inputs := [.hostRead 11] } : State).inputs = .hostRead 11 :: [] := rfl

theorem witness_PhyAnswerEndsTheOpen :
    opening.seq = .openWait ∧ ({ opening with inputs := [.openOk] } : State).inputs = .openOk :: [] ∧
      ({ opening with inputs := [.openFail 255] } : State).inputs = .openFail 255 :: [] := by
  decide

theorem witness_AxisCommandPreconditions :
    axisOperands (.setRaSpeed 1) State.reset = some (0, 1) ∧ axisOperands (.setDecSpeed 1 1) State.reset = some (0, 2) ∧
      axisOperands .stopDec State.reset = some (0, 2) ∧ State.reset.linkOpen = false ∧
      axisOperands .stopDec { State.reset with linkOpen := true } = some (0, 2) ∧
      ({ State.reset with linkOpen := true } : State).linkOpen = true := by
  decide

theorem witness_SetRaSpeedStartsTheWrite : ready.linkOpen = true ∧ ready.raAddr ≠ 0 := by decide

theorem witness_SetDecSpeedStartsTheWrite : ready.linkOpen = true ∧ ready.decAddr ≠ 0 := by decide

theorem witness_StopDecIsZeroDirectionZeroSpeed : ready.linkOpen = true ∧ ready.decAddr ≠ 0 := by decide

/-- The last byte of a frame, the first position past it, and a frame that may not be sent now. -/
theorem witness_WireFramesOfferTheirNextByte :
    encode (.wsrFrame 1 5000 0x5EC6) = .wire raFrame ∧
    (let s : State := { raTx with idx := 7 };
      s.seq = .mbTx ∧ s.txPend = false ∧ s.idx.toNat < raFrame.length) ∧
    (let s : State := { raTx with idx := 8 };
      s.seq = .mbTx ∧ s.txPend = false ∧ raFrame.length ≤ s.idx.toNat) ∧
    ¬ (ready.seq = .mbTx ∨ ready.seq = .rlTx) ∧ ({ raTx with txPend := true } : State).txPend = true := by
  decide +kernel

/-- The first and the last byte of each frame. -/
theorem witness_WireFramesSendTheBytesOfTheirTables :
    (raTx.seq = .mbTx ∧ raTx.txPend = false ∧ ({ raTx with seq := .rlTx } : State).seq = .rlTx) ∧
    ([1, 0x06, 0xF0, 0x0B, (0x1388 : Half).extractLsb' 8 8, (0x1388 : Half).extractLsb' 0 8,
        (0x5EC6 : Half).extractLsb' 0 8, (0x5EC6 : Half).extractLsb' 8 8] : List Byte)[7]? = some 0x5E ∧
    ([2, 0x10, 0x00, 0x01, 0x00, 0x02, 0x04, (1 : Half).extractLsb' 8 8, (1 : Half).extractLsb' 0 8,
        (0x1388 : Half).extractLsb' 8 8, (0x1388 : Half).extractLsb' 0 8, (0xB161 : Half).extractLsb' 0 8,
        (0xB161 : Half).extractLsb' 8 8] : List Byte)[12]? = some 0xB1 ∧
    ([0x23, 0x31, 0x41, 0x31, 0x30 + (1 : BitVec 2).setWidth 8, 0x30, 0x30 + (BitVec.ofBool true).setWidth 8, 0x0D] :
      List Byte)[raTx.idx.toNat]? = some 0x23 := by
  decide +kernel

/-- The first and the last byte of a frame, in both transmitting states. -/
theorem witness_TxAckAdvancesTheFrame : ∀ s0 ∈ [raTx, rlTx], ∀ k ∈ ([0, 7] : List (BitVec 4)),
    let s : State := { s0 with idx := k, txPend := true, inputs := [.txAck] }
    s.inputs = .txAck :: [] ∧ s.txPend = true ∧ (s.seq = .mbTx ∨ s.seq = .rlTx) ∧ s.idx.toNat < 13 ∧
      (decide (s.idx + 1 = s.flen) = decide (k = 7)) := by
  decide +kernel

theorem witness_TxFailEndsTheAttempt :
    let s : State := { raTx with txPend := true, inputs := [.txFail] }
    s.inputs = .txFail :: [] ∧ s.txPend = true ∧ s.seq = .mbTx := by
  decide +kernel

/-- The longest and the shortest frame the block sends. -/
theorem witness_FrameGoesOutWholeAndInOrder : ∀ s0 ∈ [decTx, rlTx],
    let s : State := { s0 with inputs := acks s0.flen.toNat ++ [.tick] }
    (s.seq = .mbTx ∨ s.seq = .rlTx) ∧ s.txPend = false ∧ s.idx = 0 ∧ s.flen ≠ 0 ∧ s.flen.toNat ≤ 13 ∧
      s.inputs = acks s.flen.toNat ++ [.tick] := by
  decide +kernel

theorem witness_ErroredByteEndsTheAttempt :
    (let s : State := { raRx with rxq := [{ byte := 1, err := true }] };
      nextEvent s = some (.internal, []) ∧ s.seq = .mbRx ∧ s.rxq = { byte := 1, err := true } :: []) ∧
    (let s : State := { raRx with rxq := [{ byte := 1, err := false }], rxqOvf := true };
      nextEvent s = some (.internal, []) ∧ s.seq = .mbRx ∧ s.rxqOvf = true) := by
  decide +kernel

/-- Byte 0, byte 2, and the last bytes that only are stored, of both kinds of response. -/
theorem witness_FunctionByteDecidesTheLength_stored :
    ∀ x ∈ ([(0, 0), (2, 8), (3, 5), (6, 8)] : List (BitVec 4 × BitVec 4)),
      let s : State := { raRx with rxn := x.1, rxl := x.2, rxq := [{ byte := 9, err := false }] }
      nextEvent s = some (.internal, []) ∧ s.seq = .mbRx ∧ s.rxq = { byte := 9, err := false } :: [] ∧ s.rxqOvf = false ∧
        s.rxn < 8 ∧ s.rxn ≠ 1 ∧ ¬ (s.rxl ≠ 0 ∧ s.rxn + 1 = s.rxl) := by
  decide +kernel

/-- A normal, an exception and a foreign function byte. -/
theorem witness_FunctionByteDecidesTheLength : ∀ b ∈ ([0x06, 0x86, 0x03] : List Byte),
    let s : State := { raRx with rxn := 1, rxq := [{ byte := b, err := false }] }
    nextEvent s = some (.internal, []) ∧ s.seq = .mbRx ∧ s.rxq = { byte := b, err := false } :: [] ∧ s.rxqOvf = false ∧
      s.rxn = 1 ∧ s.fc = 0x06 := by
  decide +kernel

theorem witness_NormalResponseChecksInOrder :
    let s : State := { raRx with rxn := 7, rxl := 8, rxq := [{ byte := 0x5E, err := false }] }
    nextEvent s = some (.internal, []) ∧ s.seq = .mbRx ∧ s.rxq = { byte := 0x5E, err := false } :: [] ∧
      s.rxqOvf = false ∧ s.rxn = 7 ∧ s.rxl = 8 := by
  decide +kernel

theorem witness_ExpectedResponseSucceeds :
    let s : State := { raRx with rxq := good raFrame ++ good [0xFF], inputs := List.replicate 8 .internal ++ [.tick] }
    s.seq = .mbRx ∧ s.rxn = 0 ∧ s.rxl = 0 ∧ s.rxqOvf = false ∧ s.frame[0] = s.activeSlave ∧ s.frame[1] = s.fc ∧
      s.rxq = good (s.frame.toList.take 6 ++ crcBytes (crc16 s.cfg.crcPreset (s.frame.toList.take 6))) ++ good [0xFF] ∧
      s.inputs = List.replicate 8 .internal ++ [.tick] := by
  decide +kernel

/-- The fifth byte of an exception response: the right CRC from the right and from a wrong slave, and a wrong CRC. -/
theorem witness_ExceptionResponseFailsTheAttempt_fifth :
    ∀ x ∈ ([([0x01, 0x86, 0x02, 0xC3], 0xA1), ([0x02, 0x90, 0x01, 0x7D], 0xC0), ([0x01, 0x86, 0x02, 0xC3], 0xA2)] :
        List (List Byte × Byte)),
      let s : State :=
        { raRx with rxn := 4, rxl := 5, rxb := overwrite x.1 raRx.rxb, rxq := [{ byte := x.2, err := false }] }
      nextEvent s = some (.internal, []) ∧ s.seq = .mbRx ∧ s.rxq = { byte := x.2, err := false } :: [] ∧
        s.rxqOvf = false ∧ s.rxn = 4 ∧ s.rxl = 5 := by
  decide +kernel

/-- The exception response of V-RX5. -/
theorem witness_ExceptionResponseFailsTheAttempt :
    let s : State := { raRx with rxq := good [0x01, 0x86, 0x02, 0xC3, 0xA1], inputs := List.replicate 5 .internal ++ [] }
    s.seq = .mbRx ∧ s.rxn = 0 ∧ s.rxl = 0 ∧ s.rxqOvf = false ∧ s.fc.getLsbD 7 = false ∧
      s.rxq = good ([s.activeSlave, s.fc ||| 0x80, 2] ++
        crcBytes (crc16 s.cfg.crcPreset [s.activeSlave, s.fc ||| 0x80, 2])) ++ [] ∧
      s.inputs = List.replicate 5 .internal ++ [] := by
  decide +kernel

/-- One tick: the last of the limit, one before it, and one while a byte waits. -/
theorem witness_SilentSlaveTimesOut_tick :
    (let s : State := { ready with seq := .mbRx, cnt := 499, inputs := [.tick] };
      s.seq = .mbRx ∧ s.inputs = .tick :: [] ∧ s.rxq = [] ∧ s.cnt + 1 = s.cfg.respTimeoutTicks) ∧
    (let s : State := { ready with seq := .mbRx, cnt := 498, inputs := [.tick] };
      s.seq = .mbRx ∧ s.inputs = .tick :: [] ∧ s.rxq = [] ∧ s.cnt + 1 ≠ s.cfg.respTimeoutTicks) ∧
    (let s : State := { ready with seq := .mbRx, rxq := good [1], inputs := [.tick] };
      s.seq = .mbRx ∧ s.inputs = .tick :: [] ∧ s.rxq ≠ []) := by
  decide

/-- Before the first byte, and after it. -/
theorem witness_SilentSlaveTimesOut : ∀ n ∈ ([0, 1] : List (BitVec 4)),
    let s : State := { raRx with rxn := n, inputs := ticks 500 ++ [] }
    s.seq = .mbRx ∧ s.rxq = [] ∧ s.cnt = 0 ∧
      (500 : BitVec 16) = (if s.rxn = 0 then s.cfg.respTimeoutTicks else s.cfg.byteTimeoutTicks) ∧
      s.inputs = ticks (500 : BitVec 16).toNat ++ [] := by
  decide +kernel

/-- One tick: the last of a backoff, and one before it. -/
theorem witness_BackoffLastsItsTicks_tick :
    (let s : State := { ready with seq := .mbBackoff, cnt := 149, inputs := [.tick] };
      s.seq = .mbBackoff ∧ s.inputs = .tick :: [] ∧ s.cnt + 1 = 150) ∧
    (let s : State := { ready with seq := .mbBackoff, cnt := 148, inputs := [.tick] };
      s.seq = .mbBackoff ∧ s.inputs = .tick :: [] ∧ s.cnt + 1 ≠ 150) := by
  decide

theorem witness_BackoffLastsItsTicks :
    let s : State := { raRx with seq := .mbBackoff, inputs := ticks 150 ++ [] }
    s.seq = .mbBackoff ∧ s.cnt = 0 ∧ s.inputs = ticks 150 ++ [] := by
  decide +kernel

theorem witness_PermanentFailureMakesFiveAttempts :
    let s : State := { raTx with
      inputs := (List.replicate 4 (silentAttempt raTx ++ ticks 150)).flatten ++ silentAttempt raTx ++ [] }
    (s.seq = .mbTx ∧ s.txPend = false ∧ s.idx = 0 ∧ s.rxn = 0 ∧ s.rxl = 0 ∧ s.att = 1 ∧ s.flen ≠ 0 ∧ s.flen.toNat ≤ 13 ∧
      s.rxq = [] ∧ s.recoveryEn = false ∧ s.debugEn = false ∧ s.cfg.respTimeoutTicks ≠ 0) ∧
      s.inputs = (List.replicate 4 (silentAttempt s ++ ticks 150)).flatten ++ silentAttempt s ++ [] :=
  ⟨by decide +kernel, rfl⟩

theorem witness_RaSpeedCommandRunsToSuccess :
    let s : State := { ready with
      inputs := [.hostCmd 0x00000010 0x1388, .internal] ++ acks 8 ++
        raFrame.map (fun b => Event.rxByte b false) ++ List.replicate 8 Event.internal ++ [] }
    s.seq = .idle ∧ s.txPend = false ∧ s.linkOpen = true ∧ s.raAddr ≠ 0 ∧ s.rxq = [] ∧
      8 ≤ s.cfg.rxqDepth ∧
      raFrame = [s.raAddr, 0x06, 0xF0, 0x0B, (0x1388 : Word).extractLsb' 8 8, (0x1388 : Word).extractLsb' 0 8] ++
        crcBytes (crc16 s.cfg.crcPreset
          [s.raAddr, 0x06, 0xF0, 0x0B, (0x1388 : Word).extractLsb' 8 8, (0x1388 : Word).extractLsb' 0 8]) := by
  decide +kernel

/-- Each refusal, with a command of each shape. -/
theorem witness_RelayCommandPreconditions :
    (relayOperands .powerOn State.reset = some (0, true) ∧ State.reset.linkOpen = false) ∧
    (relayOperands .dminusOff { State.reset with linkOpen := true } = some (2, false) ∧ State.reset.relayValid = false) ∧
    (relayOperands (.setRelay 3 true) ready = some (3, true) ∧ ready.linkOpen = true ∧ ready.relayValid = true) := by
  decide

/-- The lowest and the highest channel. -/
theorem witness_RelayCommandStartsItsFrame :
    ready.linkOpen = true ∧ ready.relayValid = true ∧ relayOperands .powerOff ready = some (0, false) ∧
      relayOperands .powerOn ready = some (0, true) ∧ relayOperands .dplusOn ready = some (1, true) ∧
      relayOperands .dplusOff ready = some (1, false) ∧ relayOperands .dminusOn ready = some (2, true) ∧
      relayOperands .dminusOff ready = some (2, false) ∧ relayOperands (.setRelay 2 true) ready = some (2, true) ∧
      (2 : BitVec 2) ≠ 3 := by
  decide

theorem witness_ShortWriteFailsAtOnce :
    let s : State := { rlTx with idx := 7, txPend := true, inputs := [.txFail] }
    s.inputs = .txFail :: [] ∧ s.txPend = true ∧ s.seq = .rlTx := by
  decide +kernel

/-- One tick: the last of a settle, and one before it. -/
theorem witness_SettleLastsItsTicksThenFlushes_tick :
    (let s : State := { ready with seq := .rlSettle, cnt := 249, inputs := [.tick] };
      s.seq = .rlSettle ∧ s.inputs = .tick :: [] ∧ s.cnt + 1 = 250) ∧
    (let s : State := { ready with seq := .rlSettle, cnt := 248, inputs := [.tick] };
      s.seq = .rlSettle ∧ s.inputs = .tick :: [] ∧ s.cnt + 1 ≠ 250) := by
  decide

theorem witness_SettleLastsItsTicksThenFlushes :
    let s : State := { rlTx with seq := .rlSettle, inputs := ticks 250 ++ [] }
    s.seq = .rlSettle ∧ s.cnt = 0 ∧ s.inputs = ticks 250 ++ [] := by
  decide +kernel

theorem witness_StepKeepsInvariant : Inv raTx ∧ ∃ t, step raTx = .next t := ⟨inv_raTx, ⟨_, rfl⟩⟩

theorem witness_ResetHasInvariant : Config.suggested.wf = true ∧
    ({ crcPreset := .ccittFalse, respTimeoutTicks := 1, byteTimeoutTicks := 1, rxqDepth := 8 } : Config).wf = true := by
  decide

theorem witness_InvariantStatesGoOn : Inv ready ∧ Inv raTx := ⟨inv_ready, inv_raTx⟩

theorem witness_EveryRunFromResetIsSafe : Config.suggested.wf = true := by decide

/-- A step that sends, one that pops the queue, one that ends a frame and one that flushes. -/
theorem witness_HalfDuplexDiscipline :
    (∃ t, step raTx = .next t) ∧ (∃ t, step { raRx with rxq := good [1] } = .next t) ∧
      (∃ t, step { raTx with idx := 7, txPend := true, inputs := [.txAck] } = .next t) ∧
      (∃ t, step (accepted 2 0 ready) = .next t) :=
  ⟨⟨_, rfl⟩, ⟨_, rfl⟩, ⟨_, rfl⟩, ⟨_, rfl⟩⟩

theorem witness_ActiveSlaveWriters : (∃ t, step (accepted 0x10 0 ready) = .next t) ∧ ¬ resetIsNext (accepted 0x10 0 ready) :=
  ⟨⟨_, rfl⟩, not_reset (e := .internal) (rest := []) (by decide) (by decide)⟩

/-- A CFG_RELAY, a LINK_CLOSE, a LINK_OPEN and an OpenOk. -/
theorem witness_ConfigurationWriters :
    (∀ s ∈ [accepted 0x00181A06 0 ready, accepted 2 0 ready, accepted 0x00018001 0x2580 State.reset],
      nextEvent s = some (.internal, []) ∧ (after (step s)).isSome = true) ∧
    nextEvent { opening with inputs := [.openOk] } = some (.openOk, []) ∧
      (after (step { opening with inputs := [.openOk] })).isSome = true ∧
    ¬ resetIsNext (accepted 0x00181A06 0 ready) ∧ ¬ resetIsNext { opening with inputs := [.openOk] } :=
  ⟨by decide, by decide, by decide, not_reset (e := .internal) (rest := []) (by decide) (by decide),
    not_reset (e := .openOk) (rest := []) (by decide) (by decide)⟩

theorem witness_OpenLinkConfigurationIsImmutable :
    Inv raTx ∧ raTx.linkOpen = true ∧ ∃ t, step raTx = .next t ∧ t.linkOpen = true :=
  ⟨inv_raTx, by decide +kernel, ⟨_, rfl, by decide +kernel⟩⟩

theorem witness_LastErrWrittenOnlyByFailure :
    let s := accepted 0x00000013 0 ready
    (∃ t, step s = .next t ∧ t.lastErr ≠ s.lastErr) ∧ ¬ resetIsNext s :=
  ⟨⟨_, rfl, by decide⟩, not_reset (e := .internal) (rest := []) (by decide) (by decide)⟩

theorem witness_DoneExactlyAtTheEnd :
    ((∃ t, step raTx = .next t) ∧ ¬ resetIsNext raTx) ∧
      ((∃ t, step (accepted 2 0 ready) = .next t) ∧ ¬ resetIsNext (accepted 2 0 ready)) :=
  ⟨⟨⟨_, rfl⟩, not_reset (e := .internal) (rest := []) (by decide +kernel) (by decide)⟩,
    ⟨⟨_, rfl⟩, not_reset (e := .internal) (rest := []) (by decide) (by decide)⟩⟩

theorem witness_RefusalsChangeNothingElse :
    let s := accepted 0x00000013 0 ready
    s.seq = .dispatch ∧ nextEvent s = some (.internal, []) ∧ ∃ t, step s = .next t ∧ t.seq = .idle ∧ t.ok = false :=
  ⟨by decide, by decide, ⟨_, rfl, by decide, by decide⟩⟩

theorem witness_DebugTracingChangesOnlyTraces :
    let s1 : State := { accepted 0x23 0 ready with debugEn := true, outputs := [.trace relayFrame] }
    let s2 := accepted 0x23 0 ready
    untraced s1 = untraced s2 ∧ ∃ t1, step s1 = .next t1 :=
  ⟨by decide, ⟨_, rfl⟩⟩

theorem witness_UnansweredPhyHangsTheBlock :
    (let s : State := { raTx with txPend := true, inputs := [.tick, .hostCmd 2 0] };
      s.seq = .mbTx ∧ s.txPend = true ∧ ∀ e ∈ s.inputs, endsPhyWait e = false) ∧
    (opening.seq = .openWait ∧ ∀ e ∈ opening.inputs, endsPhyWait e = false) := by
  decide +kernel

end Sys2Proof.Tests
end

/-! PROOFS. The fields of the words the host reads (R33): how a concatenation is read, and the layout of each word. -/

namespace Sys2Proof.Machine

open Sys2Proof.Safety Sys2Proof.Claims

/-! ## Fields of a concatenation -/

/-- A field above the lowest part of a concatenation is a field of the rest. -/
theorem field_above {v w k n : Nat} {x : BitVec v} {y : BitVec w} {z : BitVec n} (h : x.extractLsb' (k - w) n = z)
    (hk : w ≤ k := by decide) : (x ++ y).extractLsb' k n = z :=
  (BitVec.extractLsb'_append_eq_of_le hk).trans h

/-- A bit above the lowest part of a concatenation is a bit of the rest. -/
theorem bit_above {v w k : Nat} {x : BitVec v} {y : BitVec w} {b : Bool} (h : x.getLsbD (k - w) = b)
    (hk : w ≤ k := by decide) : (x ++ y).getLsbD k = b := by
  rw [BitVec.getLsbD_append, if_neg (by omega), h]

/-- The lowest part of a concatenation. -/
theorem field_lowest {v w : Nat} {x : BitVec v} {y : BitVec w} : (x ++ y).extractLsb' 0 w = y :=
  BitVec.extractLsb'_append_eq_right

/-- The flag that is the lowest bit of a concatenation. -/
theorem bit_lowest {v : Nat} {x : BitVec v} {b : Bool} : (x ++ BitVec.ofBool b).getLsbD 0 = b := by
  rw [BitVec.getLsbD_append]
  simp

/-! ## The words of the read map (R33) -/

theorem statusWord_fields (s : State) :
    (statusWord s).getLsbD 0 = (s.seq != .idle) ∧ (statusWord s).getLsbD 1 = s.done ∧ (statusWord s).getLsbD 2 = s.ok ∧
      (statusWord s).getLsbD 3 = s.linkOpen ∧ (statusWord s).extractLsb' 4 3 = s.attempts ∧
      (statusWord s).getLsbD 7 = false ∧ (statusWord s).extractLsb' 8 8 = s.lastOpcode ∧
      (statusWord s).extractLsb' 16 16 = 0 :=
  ⟨bit_lowest, bit_above bit_lowest, bit_above (bit_above bit_lowest), bit_above (bit_above (bit_above bit_lowest)),
    field_above (field_above (field_above (field_above field_lowest))),
    bit_above (bit_above (bit_above (bit_above (bit_above (bit_lowest (b := false)))))),
    field_above (field_above (field_above (field_above (field_above (field_above field_lowest))))),
    field_above (field_above (field_above (field_above (field_above (field_above BitVec.extractLsb'_append_eq_left)))))⟩

theorem ctrlWord_fields (s : State) :
    (ctrlWord s).getLsbD 0 = s.debugEn ∧ (ctrlWord s).getLsbD 1 = s.recoveryEn ∧ (ctrlWord s).extractLsb' 2 30 = 0 :=
  ⟨bit_lowest, bit_above bit_lowest, field_above BitVec.extractLsb'_append_eq_left⟩

theorem axisAddrWord_fields (s : State) :
    (axisAddrWord s).extractLsb' 0 8 = s.raAddr ∧ (axisAddrWord s).extractLsb' 8 8 = s.decAddr ∧
      (axisAddrWord s).extractLsb' 16 16 = 0 :=
  ⟨field_lowest, field_above field_lowest, field_above BitVec.extractLsb'_append_eq_left⟩

theorem activeSlaveWord_fields (s : State) :
    (activeSlaveWord s).extractLsb' 0 8 = s.activeSlave ∧ (activeSlaveWord s).extractLsb' 8 24 = 0 := by
  refine ⟨by simp [activeSlaveWord, BitVec.extractLsb'_setWidth_of_le], ?_⟩
  ext i hi
  simp [activeSlaveWord]

theorem relayCfgWord_fields (s : State) :
    (relayCfgWord s).extractLsb' 0 8 = s.moduleAddr ∧ (relayCfgWord s).extractLsb' 8 2 = s.chPower ∧
      (relayCfgWord s).extractLsb' 10 2 = s.chDMinus ∧ (relayCfgWord s).extractLsb' 12 2 = s.chDPlus ∧
      (relayCfgWord s).getLsbD 14 = false ∧ (relayCfgWord s).getLsbD 15 = s.relayValid ∧
      (relayCfgWord s).extractLsb' 16 16 = 0 :=
  ⟨field_lowest, field_above field_lowest, field_above (field_above field_lowest),
    field_above (field_above (field_above field_lowest)),
    bit_above (bit_above (bit_above (bit_above (bit_lowest (b := false))))),
    bit_above (bit_above (bit_above (bit_above (bit_above bit_lowest)))),
    field_above (field_above (field_above (field_above (field_above BitVec.extractLsb'_append_eq_left))))⟩

theorem relayHexWord_fields (s : State) :
    (relayHexWord s).extractLsb' 0 8 = s.hexHi ∧ (relayHexWord s).extractLsb' 8 8 = s.hexLo ∧
      (relayHexWord s).extractLsb' 16 16 = 0 :=
  ⟨field_lowest, field_above field_lowest, field_above BitVec.extractLsb'_append_eq_left⟩

/-- The fields of `LAST_ERR` as a failure writes them (R25, R130). -/
theorem errWord_fields (opcode detail cause : Byte) (cls : BitVec 3) :
    (errWord opcode detail cause cls).extractLsb' 0 3 = cls ∧ (errWord opcode detail cause cls).extractLsb' 3 5 = 0 ∧
      (errWord opcode detail cause cls).extractLsb' 8 8 = cause ∧
      (errWord opcode detail cause cls).extractLsb' 16 8 = detail ∧
      (errWord opcode detail cause cls).extractLsb' 24 8 = opcode :=
  ⟨field_lowest, field_above field_lowest, field_above (field_above field_lowest),
    field_above (field_above (field_above field_lowest)),
    field_above (field_above (field_above BitVec.extractLsb'_append_eq_left))⟩

/-- The fields of `LINK_FMT` as LINK_OPEN lays them out (R20, log 15). -/
theorem linkFmtOf_fields (parity : BitVec 2) (dataBits : BitVec 4) (stopBits : BitVec 2) :
    (linkFmtOf parity dataBits stopBits).extractLsb' 0 2 = parity ∧
      (linkFmtOf parity dataBits stopBits).extractLsb' 2 2 = 0 ∧
      (linkFmtOf parity dataBits stopBits).extractLsb' 4 4 = dataBits ∧
      (linkFmtOf parity dataBits stopBits).extractLsb' 8 2 = stopBits ∧
      (linkFmtOf parity dataBits stopBits).extractLsb' 10 22 = 0 :=
  ⟨field_lowest, field_above field_lowest, field_above (field_above field_lowest),
    field_above (field_above (field_above field_lowest)),
    field_above (field_above (field_above BitVec.extractLsb'_append_eq_left))⟩

theorem readReg_above_map {idx : Byte} (s : State) (h : 11 ≤ idx) : readReg idx s = 0 := by
  have hle : 11 ≤ idx.toNat := h
  unfold readReg
  split <;> try omega
  rfl

end Sys2Proof.Machine

/-! PROOFS. What a step can do, said once for each event: the commands of a dispatch step first (R82), then the steps
that go on with a command. -/

namespace Sys2Proof.Machine

open Sys2Proof.Safety Sys2Proof.Claims

/-! ## What a dispatch step can do -/

/-- A command refused in the state `s`: its failure is recorded and nothing else happens (R130, R131). -/
def Refused (s t : State) : Prop := ∃ c d, t = raise (causeClass c) c d s

/-- What the dispatch step of a command leaves where the command is not refused: one constructor for each way a command
goes through (R91, R94, R95, R97 to R99, R115 to R117, R121, R126). -/
inductive Performs (s : State) : Instr → State → Prop
  | linkOpen (parity : BitVec 2) (dataBits : BitVec 4) (stopBits : BitVec 2) (baud : Word) (hclosed : s.linkOpen = false)
      (hbaud : baud ≠ 0) (hfmt : fmtLegal (linkFmtOf parity dataBits stopBits)) :
      Performs s (.linkOpen parity dataBits stopBits baud)
        { emit (.openLink baud (linkFmtOf parity dataBits stopBits)) s with
          pendBaud := baud
          pendFmt := linkFmtOf parity dataBits stopBits
          seq := .openWait }
  | linkClose (hopen : s.linkOpen = true) :
      Performs s .linkClose
        (completeOk
          { s with
            rxq := []
            rxqOvf := false
            outputs := s.outputs ++ [.flush] ++ [.close]
            linkOpen := false
            linkBaud := 0
            linkFmt := 0
            activeSlave := 0 })
  | linkCloseAgain (hclosed : s.linkOpen = false) : Performs s .linkClose (completeOk s)
  | setDebug (en : Bool) : Performs s (.setDebug en) (completeOk { s with debugEn := en })
  | setRecovery (en : Bool) : Performs s (.setRecovery en) (completeOk { s with recoveryEn := en })
  | cfgAxisAddr (ra dec : Byte) (hra : slaveLegal ra = true) (hdec : slaveLegal dec = true) :
      Performs s (.cfgAxisAddr ra dec) (completeOk { s with raAddr := ra, decAddr := dec })
  | cfgRelay (m : Byte) (cp cm cd : BitVec 2) (hp : cp ≤ channelMax) (hm : cm ≤ channelMax) (hd : cd ≤ channelMax) :
      Performs s (.cfgRelay m cp cm cd)
        (completeOk
          { s with
            moduleAddr := m
            chPower := cp
            chDMinus := cm
            chDPlus := cd
            relayValid := true
            hexHi := hexU (m.extractLsb' 4 4)
            hexLo := hexU (m.extractLsb' 0 4) })
  | setRaSpeed (v : Half) (hopen : s.linkOpen = true) (haddr : s.raAddr ≠ 0) :
      Performs s (.setRaSpeed v) (buildWsr v (muxSelect s.raAddr s))
  | setDecSpeed (v d : Half) (hopen : s.linkOpen = true) (haddr : s.decAddr ≠ 0) :
      Performs s (.setDecSpeed v d) (buildWmr d v (muxSelect s.decAddr s))
  | stopDec (hopen : s.linkOpen = true) (haddr : s.decAddr ≠ 0) :
      Performs s .stopDec (buildWmr 0 0 (muxSelect s.decAddr s))
  | relay (i : Instr) (ch : BitVec 2) (st : Bool) (hi : relayOperands i s = some (ch, st)) (hopen : s.linkOpen = true)
      (hch : ch ≤ channelMax) : Performs s i (startRelay ch st s)

theorem fmtLegal_linkFmtOf {p : BitVec 2} {d : BitVec 4} {b : BitVec 2} (hp : p ≠ 3) (hd : ¬ (d < 5 ∨ 8 < d))
    (hb : ¬ (b = 0 ∨ b = 3)) : fmtLegal (linkFmtOf p d b) := by
  obtain ⟨hpar, hlow, hdata, hstop, hhigh⟩ := linkFmtOf_fields p d b
  rw [fmtLegal, hpar, hlow, hdata, hstop, hhigh]
  simp only [not_or, BitVec.not_lt] at hd hb
  exact ⟨hp, rfl, hd.1, hd.2, hb.1, hb.2, rfl⟩

/-- R91: a check refuses the command, or the open is asked of the PHY. -/
theorem execLinkOpen_next {p : BitVec 2} {d : BitVec 4} {b : BitVec 2} {baud : Word} {s t : State}
    (h : execLinkOpen p d b baud s = .next t) : Refused s t ∨ Performs s (.linkOpen p d b baud) t := by
  unfold execLinkOpen at h
  injection h with h
  subst h
  split
  · exact .inl ⟨.linkAlreadyOpen, 0, rfl⟩
  rename_i hopen
  split
  · exact .inl ⟨.cfgInvalid, 1, rfl⟩
  rename_i hp
  split
  · exact .inl ⟨.cfgInvalid, 2, rfl⟩
  rename_i hd
  split
  · exact .inl ⟨.cfgInvalid, 3, rfl⟩
  rename_i hb
  split
  · exact .inl ⟨.cfgInvalid, 4, rfl⟩
  rename_i hbaud
  exact .inr (.linkOpen p d b baud (by simpa using hopen) hbaud (fmtLegal_linkFmtOf hp hd hb))

/-- R94: a second LINK_CLOSE changes nothing but the completion. -/
theorem execLinkClose_next {s t : State} (h : execLinkClose s = .next t) : Performs s .linkClose t := by
  unfold execLinkClose at h
  injection h with h
  subst h
  split
  · exact .linkClose ‹_›
  · exact .linkCloseAgain (by simpa using ‹¬ s.linkOpen = true›)

theorem slaveLegal_of_not {a : Byte} (h : ¬ (a < slaveMin ∨ slaveMax < a)) : slaveLegal a = true := by
  simp only [not_or, BitVec.not_lt] at h
  simp [slaveLegal, h]

/-- R98. -/
theorem execCfgAxisAddr_next {ra dec : Byte} {s t : State} (h : execCfgAxisAddr ra dec s = .next t) :
    Refused s t ∨ Performs s (.cfgAxisAddr ra dec) t := by
  unfold execCfgAxisAddr at h
  injection h with h
  subst h
  split
  · exact .inl ⟨.addrOutOfRange, ra, rfl⟩
  rename_i hra
  split
  · exact .inl ⟨.addrOutOfRange, dec, rfl⟩
  rename_i hdec
  exact .inr (.cfgAxisAddr ra dec (slaveLegal_of_not hra) (slaveLegal_of_not hdec))

/-- R99. -/
theorem execCfgRelay_next {m : Byte} {cp cm cd : BitVec 2} {s t : State} (h : execCfgRelay m cp cm cd s = .next t) :
    Refused s t ∨ Performs s (.cfgRelay m cp cm cd) t := by
  unfold execCfgRelay at h
  injection h with h
  subst h
  split
  · exact .inl ⟨.channelOutOfRange, 1, rfl⟩
  rename_i hp
  split
  · exact .inl ⟨.channelOutOfRange, 2, rfl⟩
  rename_i hm
  split
  · exact .inl ⟨.channelOutOfRange, 3, rfl⟩
  rename_i hd
  exact .inr (.cfgRelay m cp cm cd (BitVec.not_lt.mp hp) (BitVec.not_lt.mp hm) (BitVec.not_lt.mp hd))

/-- R114: a precondition refuses an axis command, or its builder runs on the selected slave. -/
theorem axisCommand_next {addr which : Byte} {build : State → State} {s t : State}
    (h : (.next (axisCommand addr which build s) : Result) = .next t) :
    Refused s t ∨ (s.linkOpen = true ∧ addr ≠ 0 ∧ t = build (muxSelect addr s)) := by
  injection h with h
  obtain ⟨c, hc, d, hr⟩ | ⟨hopen, haddr, hr⟩ := axisCommand_cases addr which build s
  · have husage : ∀ c ∈ [Cause.linkNotOpen, .addrUnconfigured], causeClass c = .usage := by decide
    exact .inl ⟨c, d, by rw [husage c hc, ← h, hr]⟩
  · exact .inr ⟨hopen, haddr, h.symm.trans hr⟩

/-- R120: a precondition refuses a relay command, or its frame is built. -/
theorem relaySend_next {i : Instr} {ch : BitVec 2} {st : Bool} {s t : State} (hi : relayOperands i s = some (ch, st))
    (h : (.next (relaySend ch st s) : Result) = .next t) : Refused s t ∨ Performs s i t := by
  injection h with h
  subst h
  obtain ⟨c, hc, hr⟩ | ⟨hopen, -, hch, hr⟩ := relaySend_cases ch st s
  · have husage : ∀ c ∈ [Cause.linkNotOpen, .relayUnconfigured, .channelOutOfRange], causeClass c = .usage := by
      decide
    exact .inl ⟨c, 0, by rw [husage c hc, hr]⟩
  · rw [hr]
    exact .inr (.relay i ch st hi hopen hch)

/-- A command that is run is refused, or performed. -/
theorem exec_command_next {o : Opcode} {w0 w1 : Word} {s t : State} (h : exec (instrOf o w0 w1) s = .next t) :
    Refused s t ∨ Performs s (instrOf o w0 w1) t := by
  cases o with
  | linkOpen => exact execLinkOpen_next h
  | linkClose => exact .inr (execLinkClose_next h)
  | setDebug =>
    cases h
    exact .inr (.setDebug _)
  | setRecovery =>
    cases h
    exact .inr (.setRecovery _)
  | cfgAxisAddr => exact execCfgAxisAddr_next h
  | cfgRelay => exact execCfgRelay_next h
  | setRaSpeed =>
    refine (axisCommand_next h).imp_right ?_
    rintro ⟨hopen, haddr, rfl⟩
    exact .setRaSpeed _ hopen haddr
  | setDecSpeed =>
    refine (axisCommand_next h).imp_right ?_
    rintro ⟨hopen, haddr, rfl⟩
    exact .setDecSpeed _ _ hopen haddr
  | stopDec =>
    refine (axisCommand_next h).imp_right ?_
    rintro ⟨hopen, haddr, rfl⟩
    exact .stopDec hopen haddr
  | setRelay => exact relaySend_next rfl h
  | powerOn => exact relaySend_next rfl h
  | powerOff => exact relaySend_next rfl h
  | dplusOn => exact relaySend_next rfl h
  | dplusOff => exact relaySend_next rfl h
  | dminusOn => exact relaySend_next rfl h
  | dminusOff => exact relaySend_next rfl h

/-- What a dispatch step can do (R82): the latched words are refused, or the command in them is performed. -/
theorem dispatchStep_next {s t : State} (h : dispatchStep s = .next t) :
    Refused s t ∨ ∃ i, latched s = .instr i ∧ Performs s i t := by
  obtain ⟨-, hd⟩ | ⟨o, ho, ⟨n, -, hd⟩ | ⟨hres, hd⟩⟩ := dispatchStep_cases s
  · rw [hd] at h
    cases h
    exact .inl ⟨.reservedOpcode, _, rfl⟩
  · rw [hd] at h
    cases h
    exact .inl ⟨.reservedField, _, rfl⟩
  · rw [hd] at h
    exact (exec_command_next h).imp_right
      fun hp => ⟨_, by simp [latched, decode, decodeCommand, ho, hres], hp⟩

/-! ## What the other events can do -/

/-- What decodes from a frame is a frame (R65, R66, R71). -/
theorem exec_decodeWire {bs : List Byte} {i : Instr} (h : decodeWire bs = .instr i) (s : State) :
    ∃ bs', exec i s = transmit bs' s := by
  unfold decodeWire decodeWire8 at h
  split at h
  · split at h
    · cases h
      exact ⟨_, rfl⟩
    · split at h
      · cases h
        exact ⟨_, rfl⟩
      · cases h
  · split at h
    · cases h
      exact ⟨_, rfl⟩
    · cases h
  · cases h

/-- The transmission step offers a byte of a frame (R105, R122). -/
theorem transmitStep_next {s t : State} (h : transmitStep s = .next t) :
    t = s ∨ ∃ b, t = { emit (.tx b) s with txPend := true } := by
  have hoffer : ∃ bs, transmit bs s = .next t := by
    cases hd : decodeWire (frameBytes s) with
    | instr i =>
      obtain ⟨bs, hbs⟩ := exec_decodeWire hd s
      exact ⟨bs, by simpa [transmitStep, decode, hd, Decoded.toOption, hbs] using h⟩
    | _ => exact ⟨_, by simpa [transmitStep, decode, hd, Decoded.toOption] using h⟩
  obtain ⟨bs, hbs⟩ := hoffer
  obtain ⟨-, ht⟩ | ⟨-, b, -, ht⟩ := transmit_next hbs
  · exact .inl ht
  · exact .inr ⟨b, ht⟩

/-- What `Internal` can do, state by state (R77). -/
theorem handleInternal_next {s t : State} (h : handleInternal s = .next t) :
    t = s ∨
    (s.seq = .dispatch ∧ (Refused s t ∨ ∃ i, latched s = .instr i ∧ Performs s i t)) ∨
    ((s.seq = .mbTx ∨ s.seq = .rlTx) ∧ ∃ b, t = { emit (.tx b) s with txPend := true }) ∨
    (s.seq = .mbRx ∧ mbReceive s = .next t) := by
  cases hs : s.seq with
  | dispatch =>
    rw [handleInternal_dispatch hs] at h
    exact .inr (.inl ⟨rfl, dispatchStep_next h⟩)
  | mbTx =>
    rw [handleInternal_mbTx hs] at h
    exact (transmitStep_next h).imp_right fun hb => .inr (.inl ⟨.inl rfl, hb⟩)
  | rlTx =>
    rw [handleInternal_rlTx hs] at h
    exact (transmitStep_next h).imp_right fun hb => .inr (.inl ⟨.inr rfl, hb⟩)
  | mbRx =>
    rw [handleInternal_mbRx hs] at h
    exact .inr (.inr (.inr ⟨rfl, h⟩))
  | _ =>
    simp only [handleInternal, hs, Host.Outcome.next.injEq] at h
    exact .inl h.symm

/-- Log 14: where the block does not transmit, an acknowledgement only ends the wait for it. -/
theorem handleTxAck_untransmitting {s : State} (h : s.seq ≠ .mbTx ∧ s.seq ≠ .rlTx) :
    handleTxAck s = { s with txPend := false } := by
  unfold handleTxAck
  split <;> simp_all

/-- Log 14, for a failed byte. -/
theorem handleTxFail_untransmitting {s : State} (h : s.seq ≠ .mbTx ∧ s.seq ≠ .rlTx) :
    handleTxFail s = { s with txPend := false } := by
  unfold handleTxFail
  split <;> simp_all

/-- R111: the recovery empties the receive queue or leaves it, and adds its events to the output. -/
theorem recover_frame (s : State) :
    ∃ q o os, q.length ≤ s.rxq.length ∧ recover s = { s with rxq := q, rxqOvf := o, outputs := s.outputs ++ os } := by
  rw [recover_eq]
  split
  · exact ⟨[], false, _, by simp, rfl⟩
  · exact ⟨s.rxq, s.rxqOvf, [], le_rfl, by simp⟩

/-- A response of which more bytes are to come (R27, R108): its length is not known yet, or it is short of it. -/
abbrev responseOpen (n l : BitVec 4) : Prop := (l = 0 ∧ n < 2) ∨ ((l = 5 ∨ l = 8) ∧ 2 ≤ n ∧ n < l)

/-- What the response check leaves (R108, R109). -/
theorem checkWhole_outcome {s t : State} (h : checkWhole s = .next t) :
    (∃ c d, causeClass c = .transmission ∧ t = attemptFail c d s) ∨ t = completeOk s ∨
      (¬ (s.rxl ≠ 0 ∧ s.rxn = s.rxl) ∧ t = s) := by
  obtain ⟨-, -, hL, rfl⟩ | hopen := checkWhole_next h
  · obtain ⟨c, d, hc, hv⟩ | ⟨-, hv⟩ := validateWhole_cases s.rxl.toNat hL s
    · have htrans : ∀ c ∈ [Cause.crcMismatch, .badSlave, .exception, .badEcho], causeClass c = .transmission := by
        decide
      exact .inl ⟨c, d, htrans c hc, hv⟩
    · exact .inr (.inl hv)
  · exact .inr (.inr hopen)

/-- What the receive step leaves (R108): the attempt or the command ends, or the response so far stands in `RXB`. -/
theorem mbReceive_outcome {s t : State} (h : mbReceive s = .next t) :
    t = s ∨ ∃ rest rxb n l, rest.length ≤ s.rxq.length ∧
      ((∃ c d, causeClass c = .transmission ∧
          t = attemptFail c d { s with rxq := rest, cnt := 0, rxb := rxb, rxn := n, rxl := l }) ∨
        t = completeOk { s with rxq := rest, cnt := 0, rxb := rxb, rxn := n, rxl := l } ∨
        ((responseOpen s.rxn s.rxl → responseOpen n l) ∧
          t = { s with rxq := rest, cnt := 0, rxb := rxb, rxn := n, rxl := l })) := by
  obtain ⟨-, rfl⟩ | ⟨e, rest, hq, ⟨-, rfl⟩ | ⟨-, -, hn, hb⟩⟩ := mbReceive_next h
  · exact .inl rfl
  · exact .inr ⟨rest, s.rxb, s.rxn, s.rxl, by simp [hq], .inl ⟨.rxError, _, rfl, rfl⟩⟩
  · refine .inr ⟨rest, s.rxb.set s.rxn.toNat e.byte hn, s.rxn + 1, ?_⟩
    obtain ⟨h2, -, hc⟩ | ⟨h2, -, -, hc⟩ | ⟨-, -, -, hc⟩ | ⟨h2, hc⟩ := byteStored_next hb
    · refine ⟨8, by simp [hq], (checkWhole_outcome hc).imp_right (Or.imp_right fun ⟨_, ht⟩ => ⟨fun _ => ?_, ht⟩)⟩
      exact .inr ⟨.inr rfl, by bv_omega, by bv_omega⟩
    · refine ⟨5, by simp [hq], (checkWhole_outcome hc).imp_right (Or.imp_right fun ⟨_, ht⟩ => ⟨fun _ => ?_, ht⟩)⟩
      exact .inr ⟨.inl rfl, by bv_omega, by bv_omega⟩
    · exact ⟨s.rxl, by simp [hq], .inl ⟨.badFunction, _, rfl, hc⟩⟩
    · refine ⟨s.rxl, by simp [hq], (checkWhole_outcome hc).imp_right (Or.imp_right fun ⟨hw, ht⟩ => ⟨?_, ht⟩)⟩
      dsimp only at h2 hw
      rintro (⟨h0, hlt⟩ | ⟨hl, hle, hlt⟩)
      · exact .inl ⟨h0, by bv_omega⟩
      · have hne : s.rxn + 1 ≠ s.rxl := fun he => hw ⟨by rintro h0; simp [h0] at hl, he⟩
        exact .inr ⟨hl, by bv_omega, by bv_omega⟩

end Sys2Proof.Machine

/-! PROOFS. Who writes the settings and LAST_ERR: the steps that write none are ordinary, and of the others each command's
writers are read off `Performs`. Settles O53, O54, O55, O56 and O17. -/

namespace Sys2Proof.Machine

open Sys2Proof.Safety Sys2Proof.Claims

/-! ## The settings of the block -/

/-- The settings of a state on a block that is otherwise just reset: the configuration registers, the link's registers and
`ACTIVE_SLAVE` (R19 to R24, R32). Most steps leave them, and then `settings t = settings s`. -/
def settings (s : State) : State :=
  { State.resetWith s.cfg with
    linkOpen := s.linkOpen
    debugEn := s.debugEn
    recoveryEn := s.recoveryEn
    linkBaud := s.linkBaud
    linkFmt := s.linkFmt
    raAddr := s.raAddr
    decAddr := s.decAddr
    activeSlave := s.activeSlave
    moduleAddr := s.moduleAddr
    chPower := s.chPower
    chDMinus := s.chDMinus
    chDPlus := s.chDPlus
    relayValid := s.relayValid
    hexHi := s.hexHi
    hexLo := s.hexLo
    pendBaud := s.pendBaud
    pendFmt := s.pendFmt }

theorem settings_eq_iff {s t : State} :
    settings t = settings s ↔
      t.linkOpen = s.linkOpen ∧ t.debugEn = s.debugEn ∧ t.recoveryEn = s.recoveryEn ∧ t.linkBaud = s.linkBaud ∧
        t.linkFmt = s.linkFmt ∧ t.raAddr = s.raAddr ∧ t.decAddr = s.decAddr ∧ t.activeSlave = s.activeSlave ∧
        t.moduleAddr = s.moduleAddr ∧ t.chPower = s.chPower ∧ t.chDMinus = s.chDMinus ∧ t.chDPlus = s.chDPlus ∧
        t.relayValid = s.relayValid ∧ t.hexHi = s.hexHi ∧ t.hexLo = s.hexLo ∧ t.pendBaud = s.pendBaud ∧
        t.pendFmt = s.pendFmt ∧ t.cfg = s.cfg := by
  constructor
  · intro h
    simpa [settings, State.resetWith] using h
  · intro h
    simp [settings, h]

/-- A step that ends a command with Done(0): LAST_ERR is written by `raise`, in a busy block (R83, R130). -/
def EndsFailing (s t : State) : Prop :=
  s.seq ≠ .idle ∧
    ∃ c d u os, t = raise (causeClass c) c d u ∧ u.cmdLatch = s.cmdLatch ∧ u.outputs = s.outputs ++ os

/-- A step that writes no setting, and LAST_ERR only where a command fails. -/
structure Ordinary (s t : State) : Prop where
  settings : settings t = settings s
  lastErr : t.lastErr = s.lastErr ∨ EndsFailing s t

/-- What the schedule of events holds is no part of it. -/
theorem Ordinary.of_inputs {s t : State} {es : List Event} (h : Ordinary { s with inputs := es } t) : Ordinary s t :=
  ⟨h.settings, h.lastErr⟩

/-- A failure of a command that runs, after changes that are no settings, is an ordinary step. -/
theorem raise_ordinary {s u : State} {c : Cause} {d : Byte} {os : List Output} (hs : s.seq ≠ .idle)
    (hset : settings u = settings s) (hcmd : u.cmdLatch = s.cmdLatch) (hout : u.outputs = s.outputs ++ os) :
    Ordinary s (raise (causeClass c) c d u) :=
  ⟨hset, .inr ⟨hs, c, d, u, os, rfl, hcmd, hout⟩⟩

/-- A failed attempt (R111) is an ordinary step. -/
theorem attemptFail_ordinary {s u : State} {c : Cause} {d : Byte} (hs : s.seq ≠ .idle)
    (hc : causeClass c = .transmission) (hset : settings u = settings s) (herr : u.lastErr = s.lastErr)
    (hcmd : u.cmdLatch = s.cmdLatch) (hout : u.outputs = s.outputs) : Ordinary s (attemptFail c d u) := by
  obtain ⟨q, o, os, -, hrec⟩ := recover_frame u
  obtain ⟨-, ht⟩ | ⟨-, ht⟩ := attemptFail_cases c d u
  · rw [ht, hrec, hout, ← hc]
    exact raise_ordinary hs hset hcmd rfl
  · rw [ht, hrec]
    exact ⟨hset, .inl herr⟩

theorem receiveByte_ordinary (b : Byte) (err : Bool) (s : State) : Ordinary s (receiveByte b err s) := by
  obtain ⟨-, h⟩ | ⟨-, h⟩ := receiveByte_cases b err s
  · exact h ▸ ⟨rfl, .inl rfl⟩
  · exact h ▸ ⟨rfl, .inl rfl⟩

theorem handleTick_ordinary (s : State) : Ordinary s (handleTick s) := by
  cases hs : s.seq with
  | mbRx =>
    rw [handleTick_mbRx hs]
    obtain ⟨-, h⟩ | ⟨-, -, h⟩ | ⟨-, -, h⟩ := mbRxTick_cases s
    · rw [h]
      exact ⟨rfl, .inl rfl⟩
    · exact h ▸ attemptFail_ordinary (by simp [hs]) rfl rfl rfl rfl rfl
    · exact h ▸ ⟨rfl, .inl rfl⟩
  | mbBackoff =>
    rw [handleTick_mbBackoff hs]
    obtain ⟨-, h⟩ | ⟨-, h⟩ := backoffTick_cases s
    · rw [h, startAttempt_eq]
      exact ⟨rfl, .inl rfl⟩
    · exact h ▸ ⟨rfl, .inl rfl⟩
  | rlSettle =>
    rw [handleTick_rlSettle hs]
    obtain ⟨-, h⟩ | ⟨-, h⟩ := settleTick_cases s
    · exact h ▸ ⟨rfl, .inl rfl⟩
    · exact h ▸ ⟨rfl, .inl rfl⟩
  | _ =>
    rw [handleTick_untimed (by simp [hs])]
    exact ⟨rfl, .inl rfl⟩

theorem handleTxAck_ordinary (s : State) : Ordinary s (handleTxAck s) := by
  cases hs : s.seq with
  | mbTx =>
    rw [handleTxAck_mbTx hs]
    obtain ⟨-, h⟩ | ⟨-, h⟩ := mbTxAck_cases s
    · exact h ▸ ⟨rfl, .inl rfl⟩
    · exact h ▸ ⟨rfl, .inl rfl⟩
  | rlTx =>
    rw [handleTxAck_rlTx hs]
    obtain ⟨-, h⟩ | ⟨-, h⟩ := rlTxAck_cases s
    · exact h ▸ ⟨rfl, .inl rfl⟩
    · exact h ▸ ⟨rfl, .inl rfl⟩
  | _ =>
    rw [handleTxAck_untransmitting (by simp [hs])]
    exact ⟨rfl, .inl rfl⟩

theorem handleTxFail_ordinary (s : State) : Ordinary s (handleTxFail s) := by
  cases hs : s.seq with
  | mbTx =>
    rw [handleTxFail_mbTx hs]
    exact attemptFail_ordinary (by simp [hs]) rfl rfl rfl rfl rfl
  | rlTx =>
    rw [handleTxFail_rlTx hs]
    exact raise_ordinary (c := .txShort) (os := []) (by simp [hs]) rfl rfl (by simp)
  | _ =>
    rw [handleTxFail_untransmitting (by simp [hs])]
    exact ⟨rfl, .inl rfl⟩

theorem mbReceive_ordinary {s t : State} (hs : s.seq = .mbRx) (h : mbReceive s = .next t) : Ordinary s t := by
  obtain rfl | ⟨rest, rxb, n, l, -, ⟨c, d, hc, rfl⟩ | rfl | ⟨-, rfl⟩⟩ := mbReceive_outcome h
  · exact ⟨rfl, .inl rfl⟩
  · exact attemptFail_ordinary (by simp [hs]) hc rfl rfl rfl rfl
  · exact ⟨rfl, .inl rfl⟩
  · exact ⟨rfl, .inl rfl⟩

/-- The steps that may write a setting (R17 to R24): the rest is ordinary. -/
theorem step_ordinary_or {s t : State} (h : step s = .next t) :
    Ordinary s t ∨
    (∃ rest, nextEvent s = some (.reset, rest)) ∨
    (s.seq = .openWait ∧ ∃ rest, nextEvent s = some (.openOk, rest) ∧ t = openOk { s with inputs := rest }) ∨
    (s.seq = .dispatch ∧ ∃ rest i, latched s = .instr i ∧ Performs { s with inputs := rest } i t) := by
  obtain ⟨-, rfl⟩ | ⟨e, rest, hn, hen, hh⟩ := step_cases h
  · exact .inl ⟨rfl, .inl rfl⟩
  cases e with
  | hostCmd w0 w1 =>
    cases hh
    exact .inl ⟨rfl, .inl rfl⟩
  | hostRead idx =>
    cases hh
    exact .inl ⟨rfl, .inl rfl⟩
  | tick =>
    cases hh
    exact .inl (handleTick_ordinary _).of_inputs
  | txAck =>
    cases hh
    exact .inl (handleTxAck_ordinary _).of_inputs
  | txFail =>
    cases hh
    exact .inl (handleTxFail_ordinary _).of_inputs
  | rxByte b err =>
    cases hh
    exact .inl (receiveByte_ordinary b err _).of_inputs
  | openOk =>
    cases hh
    exact .inr (.inr (.inl ⟨by simpa [enabled] using hen, rest, hn, rfl⟩))
  | openFail c =>
    cases hh
    have hs : s.seq = .openWait := by simpa [enabled] using hen
    exact .inl (raise_ordinary (c := .openFailed) (os := []) (by simp [hs]) rfl rfl (by simp))
  | internal =>
    obtain rfl | ⟨hs, ⟨c, d, rfl⟩ | ⟨i, hi, hp⟩⟩ | ⟨-, b, rfl⟩ | ⟨hs, hr⟩ := handleInternal_next hh
    · exact .inl ⟨rfl, .inl rfl⟩
    · exact .inl (raise_ordinary (os := []) (by simp [show s.seq = .dispatch from hs]) rfl rfl (by simp))
    · exact .inr (.inr (.inr ⟨hs, rest, i, hi, hp⟩))
    · exact .inl ⟨rfl, .inl rfl⟩
    · exact .inl (mbReceive_ordinary hs hr).of_inputs
  | reset => exact .inr (.inl ⟨rest, hn⟩)

/-! ## What each command writes -/

section

variable {s t : State} {i : Instr}

/-- R22, R102: the writers of ACTIVE_SLAVE. -/
theorem Performs.activeSlave_writer (h : Performs s i t) :
    t.activeSlave = s.activeSlave ∨ ((∃ v, i = .setRaSpeed v) ∧ t.activeSlave = s.raAddr) ∨
      (((∃ v d, i = .setDecSpeed v d) ∨ i = .stopDec) ∧ t.activeSlave = s.decAddr) ∨
      (i = .linkClose ∧ t.activeSlave = 0) := by
  cases h
  case setRaSpeed v _ _ => exact .inr (.inl ⟨⟨v, rfl⟩, by simp [buildWsr, sendRequest_eq, startAttempt_eq]⟩)
  case setDecSpeed v d _ _ =>
    exact .inr (.inr (.inl ⟨.inl ⟨v, d, rfl⟩, by simp [buildWmr, sendRequest_eq, startAttempt_eq]⟩))
  case stopDec => exact .inr (.inr (.inl ⟨.inr rfl, by simp [buildWmr, sendRequest_eq, startAttempt_eq]⟩))
  case linkClose => exact .inr (.inr (.inr ⟨rfl, rfl⟩))
  all_goals exact .inl (by simp [startRelay_eq])

/-- R21, R98: CFG_AXIS_ADDR alone writes AXIS_ADDR. -/
theorem Performs.axisAddr_writer (h : Performs s i t) :
    (t.raAddr = s.raAddr ∧ t.decAddr = s.decAddr) ∨ i = .cfgAxisAddr t.raAddr t.decAddr := by
  cases h
  case cfgAxisAddr => exact .inr rfl
  all_goals exact .inl (by simp [buildWsr, buildWmr, sendRequest_eq, startAttempt_eq, startRelay_eq])

/-- R23, R24, R99: CFG_RELAY alone writes RELAY_CFG and RELAY_HEX. -/
theorem Performs.relayCfg_writer (h : Performs s i t) :
    (t.moduleAddr = s.moduleAddr ∧ t.chPower = s.chPower ∧ t.chDMinus = s.chDMinus ∧ t.chDPlus = s.chDPlus ∧
        t.relayValid = s.relayValid ∧ t.hexHi = s.hexHi ∧ t.hexLo = s.hexLo) ∨
      i = .cfgRelay t.moduleAddr t.chPower t.chDMinus t.chDPlus := by
  cases h
  case cfgRelay => exact .inr rfl
  all_goals exact .inl (by simp [buildWsr, buildWmr, sendRequest_eq, startAttempt_eq, startRelay_eq])

/-- R19, R95: SET_DEBUG alone writes CTRL.DEBUG_EN. -/
theorem Performs.debugEn_writer (h : Performs s i t) : t.debugEn = s.debugEn ∨ i = .setDebug t.debugEn := by
  cases h
  case setDebug => exact .inr rfl
  all_goals exact .inl (by simp [buildWsr, buildWmr, sendRequest_eq, startAttempt_eq, startRelay_eq])

/-- R19, R97: SET_RECOVERY alone writes CTRL.RECOVERY_EN. -/
theorem Performs.recoveryEn_writer (h : Performs s i t) :
    t.recoveryEn = s.recoveryEn ∨ i = .setRecovery t.recoveryEn := by
  cases h
  case setRecovery => exact .inr rfl
  all_goals exact .inl (by simp [buildWsr, buildWmr, sendRequest_eq, startAttempt_eq, startRelay_eq])

/-- R32, R91: LINK_OPEN alone writes the pending link configuration. -/
theorem Performs.pending_writer (h : Performs s i t) :
    (t.pendBaud = s.pendBaud ∧ t.pendFmt = s.pendFmt) ∨
      ∃ p d b, i = .linkOpen p d b t.pendBaud ∧ t.pendFmt = linkFmtOf p d b := by
  cases h
  case linkOpen p d b _ _ _ _ => exact .inr ⟨p, d, b, rfl, rfl⟩
  all_goals exact .inl (by simp [buildWsr, buildWmr, sendRequest_eq, startAttempt_eq, startRelay_eq])

/-- R20, R94: of the commands, LINK_CLOSE alone writes the link's registers. -/
theorem Performs.link_writer (h : Performs s i t) :
    (t.linkBaud = s.linkBaud ∧ t.linkFmt = s.linkFmt ∧ t.linkOpen = s.linkOpen) ∨
      (i = .linkClose ∧ s.linkOpen = true ∧ t.linkBaud = 0 ∧ t.linkFmt = 0 ∧ t.linkOpen = false) := by
  cases h
  case linkClose hopen => exact .inr ⟨rfl, hopen, rfl, rfl, rfl⟩
  all_goals exact .inl (by simp [buildWsr, buildWmr, sendRequest_eq, startAttempt_eq, startRelay_eq])

/-- R130: a command that is performed leaves LAST_ERR. -/
theorem Performs.lastErr_eq (h : Performs s i t) : t.lastErr = s.lastErr := by
  cases h
  all_goals simp [buildWsr, buildWmr, sendRequest_eq, startAttempt_eq, startRelay_eq]

end

/-! ## The obligations on who writes what -/

/-- Settles O53, over the steps that may write a setting. -/
theorem activeSlaveWriters : Obligations.ActiveSlaveWriters := by
  intro s t h hreset
  obtain ⟨hset, -⟩ | hr | ⟨hs, rest, -, rfl⟩ | ⟨hs, rest, i, hi, hp⟩ := step_ordinary_or h
  · have ha : (settings t).activeSlave = (settings s).activeSlave := by rw [hset]
    exact .inl ha
  · exact absurd hr hreset
  · exact .inr (.inr (.inr (.inr ⟨hs, rfl⟩)))
  · rw [hi]
    obtain hkept | ⟨⟨v, rfl⟩, ha⟩ | ⟨hdec, ha⟩ | ⟨rfl, ha⟩ := hp.activeSlave_writer
    · exact .inl hkept
    · exact .inr (.inl ⟨hs, ⟨v, rfl⟩, ha⟩)
    · exact .inr (.inr (.inl ⟨hs, by simpa using hdec, ha⟩))
    · exact .inr (.inr (.inr (.inl ⟨hs, rfl, ha⟩)))

/-- Settles O54, register by register over the steps that may write a setting. -/
theorem configurationWriters : Obligations.ConfigurationWriters := by
  intro s t h hreset
  obtain ⟨hset, -⟩ | hr | ⟨hs, rest, hn, rfl⟩ | ⟨hs, rest, i, hi, hp⟩ := step_ordinary_or h
  · obtain ⟨ho, hd, hr, hb, hf, hra, hdec, -, hm, hcp, hcm, hcd, hv, hhi, hlo, hpb, hpf, -⟩ := settings_eq_iff.mp hset
    exact ⟨.inl ⟨hra, hdec⟩, .inl ⟨hm, hcp, hcm, hcd, hv, hhi, hlo⟩, .inl hd, .inl hr, .inl ⟨hpb, hpf⟩,
      .inl ⟨hb, hf, ho⟩⟩
  · exact absurd hr hreset
  · exact ⟨.inl ⟨rfl, rfl⟩, .inl ⟨rfl, rfl, rfl, rfl, rfl, rfl, rfl⟩, .inl rfl, .inl rfl, .inl ⟨rfl, rfl⟩,
      .inr (.inl ⟨hs, ⟨rest, hn⟩, rfl, rfl, rfl⟩)⟩
  · rw [hi]
    refine ⟨hp.axisAddr_writer.imp_right ?_, hp.relayCfg_writer.imp_right ?_, hp.debugEn_writer.imp_right ?_,
      hp.recoveryEn_writer.imp_right ?_, hp.pending_writer.imp_right ?_,
      hp.link_writer.imp_right fun ⟨hclose, hl⟩ => .inr ⟨hs, by rw [hclose], hl⟩⟩
    · exact fun hw => ⟨hs, congrArg _ hw⟩
    · exact fun hw => ⟨hs, congrArg _ hw⟩
    · exact fun hw => ⟨hs, congrArg _ hw⟩
    · exact fun hw => ⟨hs, congrArg _ hw⟩
    · rintro ⟨p, d, b, hw, hf⟩
      exact ⟨hs, p, d, b, congrArg _ hw, hf⟩

/-- Settles O55: of the writers of the link's registers, OpenOk needs a closed link and LINK_CLOSE leaves one. -/
theorem openLinkConfigurationIsImmutable : Obligations.OpenLinkConfigurationIsImmutable := by
  intro s t hinv hopen hopen' h
  by_cases hreset : resetIsNext s
  · obtain ⟨rest, hr⟩ := hreset
    have ht : t = resetBlock { s with inputs := rest } := by
      simpa [step, hr, handle, eq_comm] using h
    simp [ht, State.resetWith] at hopen'
  · obtain ⟨-, -, -, -, -, ⟨hb, hf, -⟩ | ⟨hs, -⟩ | ⟨-, -, -, -, -, hclosed⟩⟩ := configurationWriters s t h hreset
    · exact ⟨hb, hf⟩
    · exact absurd (hinv.link.2.2 hs).1 (by simp [hopen])
    · exact absurd hopen' (by simp [hclosed])

/-- Settles O56: LAST_ERR is written by `raise`, and by nothing else. -/
theorem lastErrWrittenOnlyByFailure : Obligations.LastErrWrittenOnlyByFailure := by
  intro s t h hne hreset
  obtain ⟨-, hkept | ⟨hs, c, d, u, os, rfl, hcmd, hout⟩⟩ | hr | ⟨-, rest, -, rfl⟩ | ⟨-, rest, i, -, hp⟩ :=
    step_ordinary_or h
  · exact absurd hkept hne
  · obtain ⟨-, hreserved, -, -, hopcode⟩ :=
      errWord_fields (u.cmdLatch.extractLsb' 0 8) d (causeCode c) (classCode (causeClass c))
    exact ⟨hs, rfl, rfl, rfl, hcmd ▸ hopcode, hreserved, os, by simp [hout]⟩
  · exact absurd hr hreset
  · exact absurd rfl hne
  · exact absurd hp.lastErr_eq hne

/-- The reserved bits of a legal LAST_ERR word are 0 (R25, R33). -/
theorem errLegal_reserved {w : Word} (h : errLegal w) : w.extractLsb' 3 5 = 0 := by
  obtain rfl | ⟨-, -, -, hreserved, -⟩ := h
  · rfl
  · exact hreserved

/-- The reserved bits of LINK_FMT are 0, on a closed and on an open link (R20, R33). -/
theorem linkFmt_reserved {s : State} (h : linkInv s) :
    s.linkFmt.extractLsb' 2 2 = 0 ∧ s.linkFmt.extractLsb' 10 22 = 0 := by
  obtain ⟨hclosed, hopen, -⟩ := h
  cases ho : s.linkOpen with
  | false =>
    obtain ⟨-, hfmt, -⟩ := hclosed ho
    simp [hfmt]
  | true =>
    obtain ⟨-, -, hlow, -, -, -, -, hhigh⟩ := hopen ho
    exact ⟨hlow, hhigh⟩

/-- A LINK_OPEN that is not refused leaves its operands in PEND_FMT (R91, log 15). -/
theorem pendFmt_of_linkOpen {p : BitVec 2} {d : BitVec 4} {b : BitVec 2} {baud : Word} {s u : State}
    (h : exec (.linkOpen p d b baud) s = .next u) (hu : u.seq = .openWait) : u.pendFmt = linkFmtOf p d b := by
  obtain ⟨c, x, rfl⟩ | hp := execLinkOpen_next h
  · simp at hu
  · cases hp
    case linkOpen => rfl
    case relay hi => simp [relayOperands] at hi

/-- Settles O17, word by word. -/
theorem readMapGivesEveryField : Obligations.ReadMapGivesEveryField := by
  intro s
  refine ⟨statusWord_fields s, rfl, ctrlWord_fields s, rfl, rfl, axisAddrWord_fields s, activeSlaveWord_fields s,
    relayCfgWord_fields s, relayHexWord_fields s, rfl, rfl, fun _ => readReg_above_map s, ?_, ?_, ?_⟩
  · intro cls c d
    exact errWord_fields (s.cmdLatch.extractLsb' 0 8) d (causeCode c) (classCode cls)
  · intro p d b baud u h hu
    have hfmt : readReg 4 (openOk u) = linkFmtOf p d b := pendFmt_of_linkOpen h hu
    rw [hfmt]
    exact linkFmtOf_fields p d b
  · intro hinv
    exact ⟨errLegal_reserved hinv.err, linkFmt_reserved hinv.link⟩

end Sys2Proof.Machine

/-! PROOFS. The invariant of the block (O48): its part at rest, what each state of the sequencer adds to it, the frames the
block builds, and the commands. -/

namespace Sys2Proof.Machine

open Sys2Proof.Safety Sys2Proof.Claims

/-! ## The invariant at rest, and by the state of the sequencer -/

/-- A state at rest: its settings and what a command leaves behind, on a block that is otherwise just reset.
`Standing (atRest s)` is the part of the invariant that does not look at the sequencer; an operation that writes none of
these fields leaves it as it is, by definition. -/
def atRest (s : State) : State :=
  { settings s with
    cmdLatch := s.cmdLatch
    lastOpcode := s.lastOpcode
    done := s.done
    ok := s.ok
    attempts := s.attempts
    att := s.att
    lastErr := s.lastErr
    rxq := s.rxq }

/-- The parts of the invariant that do not look at the sequencer: legal parameters, the counts and flags of STATUS, the
link's registers, the addresses, the relay configuration, LAST_ERR and the bound of RXQ. -/
structure Standing (s : State) : Prop where
  params : s.cfg.wf = true
  okDone : s.ok = true → s.done = true
  attempts : s.attempts = s.att
  attLe : s.att ≤ maxAttemptsAxis
  opcode : s.lastOpcode = s.cmdLatch.extractLsb' 0 8
  closed : s.linkOpen = false → s.linkBaud = 0 ∧ s.linkFmt = 0 ∧ s.activeSlave = 0
  opened : s.linkOpen = true → s.linkBaud ≠ 0 ∧ fmtLegal s.linkFmt
  addr : addrInv s
  relay : relayInv s
  err : errLegal s.lastErr
  queue : s.rxq.length ≤ s.cfg.rxqDepth

/-- STATUS while a command runs (R17, R81). -/
abbrev running (s : State) : Prop := s.done = false ∧ s.ok = false

/-- What holds while a frame is in use (R26, R45): the frame is that of the running command, on an open link. -/
abbrev exchanging (s : State) : Prop := frameInUse s = true ∧ s.linkOpen = true ∧ s.att ≠ 0

section

variable {s : State}

theorem standing_of_inv (h : Inv s) : Standing (atRest s) := by
  obtain ⟨hparams, ⟨-, hok, hatt, hle, hopcode⟩, ⟨hclosed, hopened, -⟩, haddr, hrelay, herr, -, hrx, -⟩ := h
  obtain ⟨-, -, hqueue⟩ := hrx
  exact ⟨hparams, hok, hatt, hle, hopcode, hclosed, hopened, haddr, hrelay, herr, hqueue⟩

/-- The invariant is its part at rest and what the sequencer's state adds. -/
theorem inv_of_standing (h : Standing (atRest s)) (hrun : s.seq ≠ .idle → running s)
    (hpend : s.seq = .openWait → s.linkOpen = false ∧ s.pendBaud ≠ 0 ∧ fmtLegal s.pendFmt) (htx : txInv s)
    (hclear : s.seq = .mbTx → s.rxn = 0 ∧ s.rxl = 0) (hresp : s.seq = .mbRx → responseOpen s.rxn s.rxl)
    (hwait : waitInv s) : Inv s :=
  ⟨h.params, ⟨hrun, h.okDone, h.attempts, h.attLe, h.opcode⟩, ⟨h.closed, h.opened, hpend⟩, h.addr, h.relay, h.err,
    htx, ⟨hclear, hresp, h.queue⟩, hwait⟩

theorem inv_of_idle (h : Standing (atRest s)) (hs : s.seq = .idle) (hp : s.txPend = false) : Inv s :=
  inv_of_standing h (by simp [hs]) (by simp [hs]) (by simp [txInv, hs, hp]) (by simp [hs]) (by simp [hs])
    (by simp [waitInv, hs])

theorem inv_of_dispatch (h : Standing (atRest s)) (hs : s.seq = .dispatch) (hrun : running s) (hp : s.txPend = false) :
    Inv s :=
  inv_of_standing h (fun _ => hrun) (by simp [hs]) (by simp [txInv, hs, hp]) (by simp [hs]) (by simp [hs])
    (by simp [waitInv, hs])

theorem inv_of_openWait (h : Standing (atRest s)) (hs : s.seq = .openWait) (hrun : running s) (hp : s.txPend = false)
    (hpend : s.linkOpen = false ∧ s.pendBaud ≠ 0 ∧ fmtLegal s.pendFmt) : Inv s :=
  inv_of_standing h (fun _ => hrun) (fun _ => hpend) (by simp [txInv, hs, hp]) (by simp [hs]) (by simp [hs])
    (by simp [waitInv, hs])

theorem inv_of_mbTx (h : Standing (atRest s)) (hs : s.seq = .mbTx) (hrun : running s) (hx : exchanging s)
    (hi : s.idx < s.flen) (hclear : s.rxn = 0 ∧ s.rxl = 0) : Inv s :=
  inv_of_standing h (fun _ => hrun) (by simp [hs])
    ⟨fun _ => .inl hs, fun _ => hi, fun _ => hx, by simp [hs], by simp [hs]⟩ (fun _ => hclear) (by simp [hs])
    (by simp [waitInv, hs])

theorem inv_of_mbRx (h : Standing (atRest s)) (hs : s.seq = .mbRx) (hrun : running s) (hp : s.txPend = false)
    (hx : exchanging s) (hresp : responseOpen s.rxn s.rxl) (hc : s.cnt < rxLimit s) : Inv s :=
  inv_of_standing h (fun _ => hrun) (by simp [hs])
    ⟨by simp [hp], by simp [hs], fun _ => hx, by simp [hs], by simp [hs]⟩ (by simp [hs]) (fun _ => hresp)
    ⟨fun _ => hc, by simp [hs], by simp [hs]⟩

theorem inv_of_mbBackoff (h : Standing (atRest s)) (hs : s.seq = .mbBackoff) (hrun : running s) (hp : s.txPend = false)
    (hx : exchanging s) (ha : s.att < maxAttemptsAxis) (hc : s.cnt < backoffTicks) : Inv s :=
  inv_of_standing h (fun _ => hrun) (by simp [hs])
    ⟨by simp [hp], by simp [hs], fun _ => hx, by simp [hs], fun _ => ha⟩ (by simp [hs]) (by simp [hs])
    ⟨by simp [hs], fun _ => hc, by simp [hs]⟩

theorem inv_of_rlTx (h : Standing (atRest s)) (hs : s.seq = .rlTx) (hrun : running s) (hx : exchanging s)
    (ha : s.att = maxAttemptsRelay) (hi : s.idx < s.flen) : Inv s :=
  inv_of_standing h (fun _ => hrun) (by simp [hs])
    ⟨fun _ => .inr hs, fun _ => hi, fun _ => hx, fun _ => ⟨ha, hx.2.1⟩, by simp [hs]⟩ (by simp [hs]) (by simp [hs])
    (by simp [waitInv, hs])

theorem inv_of_rlSettle (h : Standing (atRest s)) (hs : s.seq = .rlSettle) (hrun : running s) (hp : s.txPend = false)
    (ha : s.att = maxAttemptsRelay) (ho : s.linkOpen = true) (hc : s.cnt < settleTicks) : Inv s :=
  inv_of_standing h (fun _ => hrun) (by simp [hs])
    ⟨by simp [hp], by simp [hs], by simp [hs], fun _ => ⟨ha, ho⟩, by simp [hs]⟩ (by simp [hs]) (by simp [hs])
    ⟨by simp [hs], by simp [hs], fun _ => hc⟩

end

/-! ## The shared operations keep the invariant -/

section

variable {s : State}

/-- R29, R79: no byte is outstanding outside the two transmitting states. -/
theorem txPend_eq_false (h : Inv s) (hs : s.seq ≠ .mbTx ∧ s.seq ≠ .rlTx) : s.txPend = false := by
  obtain ⟨hpend, -⟩ := h.tx
  simpa [hs] using mt hpend

theorem mem_causes (c : Cause) : c ∈ causes := by
  cases c <;> decide

/-- A failure (R130) of a block with no byte outstanding. -/
theorem inv_raise {c : Cause} {d : Byte} (h : Standing (atRest s)) (hp : s.txPend = false) :
    Inv (raise (causeClass c) c d s) := by
  obtain ⟨hcls, hreserved, hcause, -, -⟩ :=
    errWord_fields (s.cmdLatch.extractLsb' 0 8) d (causeCode c) (classCode (causeClass c))
  have herr : errLegal (raise (causeClass c) c d s).lastErr := .inr ⟨c, mem_causes c, hcause, hreserved, hcls⟩
  exact inv_of_idle { h with okDone := nofun, err := herr } rfl hp

/-- A completion (R83) of a block with no byte outstanding. -/
theorem inv_completeOk (h : Standing (atRest s)) (hp : s.txPend = false) : Inv (completeOk s) :=
  inv_of_idle { h with okDone := fun _ => rfl } rfl hp

/-- A queue that gets no longer stays within its depth (R28). -/
theorem standing_rxq {q : List RxEntry} (h : Standing (atRest s)) (hq : q.length ≤ s.rxq.length) :
    Standing (atRest { s with rxq := q }) :=
  { h with queue := hq.trans h.queue }

/-- A frame in use stays in use as an axis command goes on (R15, R26). -/
theorem frameInUse_seq {q : Seq} (hs : s.seq ≠ .rlTx) (hq : q ≠ .rlTx) :
    frameInUse { s with seq := q } = frameInUse s := by
  simp only [frameInUse, frameBytes, ne_eq, hs, hq]

/-- A failed attempt (R111) of an axis command. -/
theorem inv_attemptFail {c : Cause} {d : Byte} (h : Standing (atRest s)) (hc : causeClass c = .transmission)
    (hs : s.seq ≠ .rlTx) (hrun : running s) (hp : s.txPend = false) (hx : exchanging s) : Inv (attemptFail c d s) := by
  obtain ⟨q, o, os, hq, hrec⟩ := recover_frame s
  have hrest := standing_rxq h hq
  obtain ⟨-, ht⟩ | ⟨ha, ht⟩ := attemptFail_cases c d s
  · rw [ht, hrec, ← hc]
    exact inv_raise hrest hp
  · obtain ⟨hframe, hopen⟩ := hx
    have hle : s.att ≤ 5 := h.attLe
    have hlt : s.att < 5 := by bv_omega
    rw [ht, hrec]
    exact inv_of_mbBackoff hrest rfl hrun hp ⟨(frameInUse_seq hs (q := .mbBackoff) nofun).trans hframe, hopen⟩ hlt
      (show 0#16 < backoffTicks by decide)

end

/-! ## A frame the block builds is in use -/

/-- The two halves of a 16-bit field make it up again (R39). -/
theorem hi8_append_lo8 (v : Half) : (hi8 v ++ lo8 v : BitVec 16) = v :=
  (BitVec.extractLsb'_append_extractLsb'_eq_extractLsb' (x := v) rfl).trans BitVec.extractLsb'_eq_self

theorem decodeWire_wsrBytes (a : Byte) (v c : Half) : decodeWire (wsrBytes a v c) = .instr (.wsrFrame a v c) := by
  simp [wsrBytes, wsrBody, fieldBytes, crcBytes, decodeWire, decodeWire8, hi8_append_lo8]

theorem decodeWire_wmrBytes (a : Byte) (d v c : Half) : decodeWire (wmrBytes a d v c) = .instr (.wmrFrame a d v c) := by
  simp [wmrBytes, wmrBody, fieldBytes, crcBytes, decodeWire, hi8_append_lo8]

theorem channelDigit_fields (ch : BitVec 2) :
    (channelDigit ch).extractLsb' 2 6 = 0b001100#6 ∧ (channelDigit ch).extractLsb' 0 2 = ch := by
  revert ch
  decide

theorem stateDigit_fields (st : Bool) :
    (stateDigit st).extractLsb' 1 7 = 0b0011000#7 ∧ (stateDigit st).getLsbD 0 = st := by
  cases st <;> decide

theorem decodeWire_adamBytes (h l : Byte) (ch : BitVec 2) (st : Bool) :
    decodeWire (adamBytes h l ch st) = .instr (.adamFrame h l ch st) := by
  obtain ⟨hc, hch⟩ := channelDigit_fields ch
  obtain ⟨hd, hst⟩ := stateDigit_fields st
  have h3 : ¬ (0x31 : Byte) = lo8 raReg := by decide
  simp only [adamBytes, decodeWire, decodeWire8, h3, hc, hch, hd, hst, and_false, if_false, and_self, if_true]

/-- The bytes loaded are the frame (R26). -/
theorem frameBytes_of_overwrite {bs : List Byte} {buf : Vector Byte 13} {s : State} (hf : s.frame = overwrite bs buf)
    (hn : s.flen.toNat = bs.length) (hle : bs.length ≤ 13) : frameBytes s = bs := by
  rw [frameBytes, hf, hn, overwrite_take _ _ hle]

section

variable {s : State}

/-- R65, R103: a WSR frame to the selected slave is in use. -/
theorem frameInUse_of_wsr {v : Half}
    (hb : frameBytes s = wsrBytes s.activeSlave v (crc16 s.cfg.crcPreset (wsrBody s.activeSlave v)))
    (hs : s.seq ≠ .rlTx) (hfc : s.fc = fcWsr) (hlen : s.flen = 8) (ha : slaveLegal s.activeSlave = true) :
    frameInUse s = true := by
  simp [frameInUse, decode, hb, decodeWire_wsrBytes, hs, hfc, hlen, Instr.wf, ha]

/-- R66, R103: a WMR frame to the selected slave is in use. -/
theorem frameInUse_of_wmr {d v : Half}
    (hb : frameBytes s = wmrBytes s.activeSlave d v (crc16 s.cfg.crcPreset (wmrBody s.activeSlave d v)))
    (hs : s.seq ≠ .rlTx) (hfc : s.fc = fcWmr) (hlen : s.flen = 13) (ha : slaveLegal s.activeSlave = true) :
    frameInUse s = true := by
  simp [frameInUse, decode, hb, decodeWire_wmrBytes, hs, hfc, hlen, Instr.wf, ha]

/-- R71, R119: a relay frame with legal digits and channel is in use. -/
theorem frameInUse_of_adam {hi lo : Byte} {ch : BitVec 2} {st : Bool} (hb : frameBytes s = adamBytes hi lo ch st)
    (hs : s.seq = .rlTx) (hlen : s.flen = 8) (hhi : isHexU hi = true) (hlo : isHexU lo = true) (hch : ch ≤ channelMax) :
    frameInUse s = true := by
  simp [frameInUse, decode, hb, decodeWire_adamBytes, hs, hlen, Instr.wf, hhi, hlo, hch]

/-- A frame in use has a first byte (R26). -/
theorem flen_pos_of_frameInUse (h : frameInUse s = true) : 0 < s.flen := by
  unfold frameInUse at h
  split at h
  · simp only [Bool.and_eq_true, decide_eq_true_eq] at h
    simp [h]
  · simp only [Bool.and_eq_true, decide_eq_true_eq] at h
    simp [h]
  · simp only [Bool.and_eq_true, decide_eq_true_eq] at h
    simp [h]
  · simp at h

/-! ## The start of an attempt, and what each command performs -/

/-- R104: an attempt starts with its number in `ATT`. -/
theorem inv_startAttempt (h : Standing (atRest { s with attempts := s.att })) (hrun : running s)
    (hframe : frameInUse { s with seq := .mbTx } = true) (hopen : s.linkOpen = true) (ha : s.att ≠ 0) :
    Inv (startAttempt s) := by
  rw [startAttempt_eq]
  exact inv_of_mbTx h rfl hrun ⟨hframe, hopen, ha⟩ (flen_pos_of_frameInUse hframe) ⟨rfl, rfl⟩

/-- Attempt 1 of a command counts 1 (R31, R103, R121). -/
theorem standing_firstAttempt (h : Standing (atRest s)) : Standing (atRest { s with att := 1, attempts := 1 }) :=
  { h with attempts := rfl, attLe := show 1#3 ≤ maxAttemptsAxis by decide }

theorem inv_buildWsr {v : Half} (h : Standing (atRest s)) (hrun : running s) (hopen : s.linkOpen = true)
    (ha : slaveLegal s.activeSlave = true) : Inv (buildWsr v s) := by
  rw [buildWsr, sendRequest_eq]
  refine inv_startAttempt (standing_firstAttempt (s := s) h) hrun ?_ hopen (by simp)
  exact frameInUse_of_wsr (v := v) (frameBytes_of_overwrite rfl rfl (show 8 ≤ 13 by decide)) nofun rfl rfl ha

theorem inv_buildWmr {d v : Half} (h : Standing (atRest s)) (hrun : running s) (hopen : s.linkOpen = true)
    (ha : slaveLegal s.activeSlave = true) : Inv (buildWmr d v s) := by
  rw [buildWmr, sendRequest_eq]
  refine inv_startAttempt (standing_firstAttempt (s := s) h) hrun ?_ hopen (by simp)
  exact frameInUse_of_wmr (d := d) (v := v) (frameBytes_of_overwrite rfl rfl (show 13 ≤ 13 by decide)) nofun rfl rfl ha

theorem inv_startRelay {ch : BitVec 2} {st : Bool} (h : Standing (atRest s)) (hrun : running s)
    (hopen : s.linkOpen = true) (hch : ch ≤ channelMax) : Inv (startRelay ch st s) := by
  obtain ⟨-, -, -, hhi, hlo⟩ := h.relay
  have hhex : isHexU s.hexHi = true ∧ isHexU s.hexLo = true :=
    ⟨(congrArg isHexU hhi).trans (isHexU_hexU _), (congrArg isHexU hlo).trans (isHexU_hexU _)⟩
  rw [startRelay_eq]
  refine inv_of_rlTx (standing_firstAttempt (s := s) h) rfl hrun ⟨?_, hopen, by simp⟩ rfl (show 0#4 < 8#4 by decide)
  exact frameInUse_of_adam (frameBytes_of_overwrite rfl rfl (show 8 ≤ 13 by decide)) rfl rfl hhex.1 hhex.2 hch

/-- R102: on an open link a legal slave can be selected. -/
theorem standing_muxSelect {a : Byte} (h : Standing (atRest s)) (hopen : s.linkOpen = true) (ha : a ≤ slaveMax) :
    Standing (atRest (muxSelect a s)) := by
  obtain ⟨hra, hdec, -, hboth⟩ := h.addr
  have hnot : s.linkOpen ≠ false := by simp [hopen]
  exact { h with closed := fun hc => absurd hc hnot, addr := ⟨hra, hdec, ha, hboth⟩ }

theorem slaveLegal_iff {a : Byte} : slaveLegal a = true ↔ a ≠ 0 ∧ a ≤ slaveMax := by
  have hmin : slaveMin ≤ a ↔ a ≠ 0 := by
    simp only [slaveMin]
    bv_omega
  simp [slaveLegal, hmin]

/-- A command that is performed keeps the invariant. -/
theorem inv_performs {t : State} {i : Instr} (h : Inv s) (hs : s.seq = .dispatch) (hp : Performs s i t) : Inv t := by
  have hrest := standing_of_inv h
  have hrun : running s := h.status.1 (by simp [hs])
  have htx : s.txPend = false := txPend_eq_false h (by simp [hs])
  obtain ⟨hra, hdec, hslave, hboth⟩ := h.addr
  -- Where no part changes, `params` is named again so that the parts are read in the new state.
  cases hp with
  | linkOpen p d b baud hclosed hbaud hfmt =>
    exact inv_of_openWait { hrest with params := hrest.params } rfl hrun htx ⟨hclosed, hbaud, hfmt⟩
  | linkClose hopen =>
    exact inv_completeOk
      { hrest with
        closed := fun _ => ⟨rfl, rfl, rfl⟩
        opened := nofun
        addr := ⟨hra, hdec, show 0#8 ≤ slaveMax by decide, hboth⟩
        queue := Nat.zero_le _ } htx
  | linkCloseAgain hclosed => exact inv_completeOk hrest htx
  | setDebug en => exact inv_completeOk { hrest with params := hrest.params } htx
  | setRecovery en => exact inv_completeOk { hrest with params := hrest.params } htx
  | cfgAxisAddr ra dec hra' hdec' =>
    obtain ⟨hra0, hra'⟩ := slaveLegal_iff.mp hra'
    obtain ⟨hdec0, hdec'⟩ := slaveLegal_iff.mp hdec'
    exact inv_completeOk { hrest with addr := ⟨hra', hdec', hslave, iff_of_false hra0 hdec0⟩ } htx
  | cfgRelay m cp cm cd hcp hcm hcd =>
    exact inv_completeOk { hrest with relay := ⟨hcp, hcm, hcd, rfl, rfl⟩ } htx
  | setRaSpeed v hopen haddr =>
    exact inv_buildWsr (standing_muxSelect hrest hopen hra) hrun hopen (slaveLegal_iff.mpr ⟨haddr, hra⟩)
  | setDecSpeed v d hopen haddr =>
    exact inv_buildWmr (standing_muxSelect hrest hopen hdec) hrun hopen (slaveLegal_iff.mpr ⟨haddr, hdec⟩)
  | stopDec hopen haddr =>
    exact inv_buildWmr (standing_muxSelect hrest hopen hdec) hrun hopen (slaveLegal_iff.mpr ⟨haddr, hdec⟩)
  | relay i ch st hi hopen hch => exact inv_startRelay hrest hrun hopen hch

end

end Sys2Proof.Machine

/-! PROOFS. The invariant of the block (O48): every response to an event keeps it. -/

namespace Sys2Proof.Machine

open Sys2Proof.Safety Sys2Proof.Claims

/-! ## Every response to an event keeps the invariant -/

section

variable {s : State}

/-- The schedule of events is no part of the invariant. -/
theorem inv_inputs {es : List Event} (h : Inv s) : Inv { s with inputs := es } :=
  ⟨h.params, h.status, h.link, h.addr, h.relay, h.err, h.tx, h.rx, h.wait⟩

/-- What the read port has returned is no part of the invariant. -/
theorem inv_readLog {vs : List (Byte × Word)} (h : Inv s) : Inv { s with readLog := vs } :=
  ⟨h.params, h.status, h.link, h.addr, h.relay, h.err, h.tx, h.rx, h.wait⟩

/-- R81. -/
theorem inv_acceptCommand {w0 w1 : Word} (h : Inv s) (hs : s.seq = .idle) : Inv (acceptCommand w0 w1 s) := by
  have hp := txPend_eq_false h (by simp [hs])
  exact inv_of_dispatch
    { standing_of_inv h with
      okDone := nofun
      attempts := rfl
      attLe := show 0#3 ≤ maxAttemptsAxis by decide
      opcode := rfl }
    rfl ⟨rfl, rfl⟩ hp

/-- R80. -/
theorem inv_receiveByte {b : Byte} {err : Bool} (h : Inv s) : Inv (receiveByte b err s) := by
  obtain ⟨hclear, hresp, hqueue⟩ := h.rx
  have hlen := receiveByte_length_le b err s hqueue
  obtain ⟨-, ht⟩ | ⟨-, ht⟩ := receiveByte_cases b err s
  · rw [ht] at hlen ⊢
    exact { h with rx := ⟨hclear, hresp, hlen⟩ }
  · rw [ht] at hlen ⊢
    exact { h with rx := ⟨hclear, hresp, hlen⟩ }

/-- R105, R122: an offered byte is outstanding. -/
theorem inv_offer {b : Byte} (h : Inv s) (hs : s.seq = .mbTx ∨ s.seq = .rlTx) :
    Inv { emit (.tx b) s with txPend := true } := by
  obtain ⟨-, htx⟩ := h.tx
  exact { h with tx := ⟨fun _ => hs, htx⟩ }

/-- R79: an answer of the PHY ends the wait for it. -/
theorem inv_answered (h : Inv s) : Inv { s with txPend := false } := by
  obtain ⟨-, htx⟩ := h.tx
  exact { h with tx := ⟨nofun, htx⟩ }

/-- A wait counts on below its limit (R30). -/
theorem inv_counted {n : BitVec 16} (h : Inv s) (hrx : s.seq = .mbRx → n < rxLimit s)
    (hback : s.seq = .mbBackoff → n < backoffTicks) (hsettle : s.seq = .rlSettle → n < settleTicks) :
    Inv { s with cnt := n } :=
  { h with wait := ⟨hrx, hback, hsettle⟩ }

/-- A count that is below its limit and does not reach it stays below it. -/
theorem count_lt {n limit : BitVec 16} (h : n < limit) (hne : n + 1 ≠ limit) : n + 1 < limit := by
  bv_omega

/-- R110: legal parameters leave every reception time. -/
theorem rxLimit_pos (h : s.cfg.wf = true) : 0 < rxLimit s := by
  simp only [Config.wf, Bool.and_eq_true, bne_iff_ne, ne_eq] at h
  obtain ⟨⟨hresp, hbyte⟩, -⟩ := h
  unfold rxLimit
  split
  · bv_omega
  · bv_omega

/-- What the invariant says of an axis command that runs. -/
theorem axis_running (h : Inv s) (hs : axisRunning s) : running s ∧ exchanging s ∧ s.seq ≠ .rlTx := by
  obtain ⟨-, -, hx, -⟩ := h.tx
  have hne : s.seq ≠ .idle ∧ s.seq ≠ .rlTx := by
    obtain hs | hs | hs := hs <;> simp [hs]
  exact ⟨h.status.1 hne.1, hx (.inl hs), hne.2⟩

/-- R106. -/
theorem inv_mbTxAck (h : Inv s) (hs : s.seq = .mbTx) : Inv (mbTxAck s) := by
  obtain ⟨hrun, ⟨hframe, hopen⟩, hne⟩ := axis_running h (.inl hs)
  obtain ⟨-, hidx, -⟩ := h.tx
  obtain ⟨hclear, -⟩ := h.rx
  have hlt := hidx (.inl hs)
  obtain ⟨hn, hl⟩ := hclear hs
  have hrest := standing_of_inv h
  obtain ⟨-, ht⟩ | ⟨hend, ht⟩ := mbTxAck_cases s
  · rw [ht]
    exact inv_of_mbRx hrest rfl hrun rfl ⟨(frameInUse_seq hne (q := .mbRx) nofun).trans hframe, hopen⟩
      (.inl ⟨hl, show s.rxn < 2 by simp [hn]⟩) (rxLimit_pos (s := s) h.params)
  · rw [ht]
    exact inv_of_mbTx hrest hs hrun ⟨hframe, hopen⟩ (show s.idx + 1 < s.flen by bv_omega) ⟨hn, hl⟩

/-- R123. -/
theorem inv_rlTxAck (h : Inv s) (hs : s.seq = .rlTx) : Inv (rlTxAck s) := by
  have hrun : running s := h.status.1 (by simp [hs])
  obtain ⟨-, hidx, hx, hrelay, -⟩ := h.tx
  have hlt := hidx (.inr hs)
  obtain ⟨ha, hopen⟩ := hrelay (.inl hs)
  have hrest := standing_of_inv h
  obtain ⟨-, ht⟩ | ⟨hend, ht⟩ := rlTxAck_cases s
  · rw [ht]
    exact inv_of_rlSettle hrest rfl hrun rfl ha hopen (show 0#16 < settleTicks by decide)
  · rw [ht]
    exact inv_of_rlTx hrest hs hrun (hx (.inr hs)) ha (show s.idx + 1 < s.flen by bv_omega)

theorem inv_handleTxAck (h : Inv s) : Inv (handleTxAck s) := by
  cases hs : s.seq with
  | mbTx => exact handleTxAck_mbTx hs ▸ inv_mbTxAck h hs
  | rlTx => exact handleTxAck_rlTx hs ▸ inv_rlTxAck h hs
  | _ =>
    rw [handleTxAck_untransmitting (by simp [hs])]
    exact inv_answered h

/-- R107, R124. -/
theorem inv_handleTxFail (h : Inv s) : Inv (handleTxFail s) := by
  cases hs : s.seq with
  | mbTx =>
    obtain ⟨hrun, hx, hne⟩ := axis_running h (.inl hs)
    rw [handleTxFail_mbTx hs]
    exact inv_attemptFail (standing_of_inv (inv_answered h)) rfl hne hrun rfl hx
  | rlTx =>
    rw [handleTxFail_rlTx hs]
    exact inv_raise (c := .txShort) (standing_of_inv (inv_answered h)) rfl
  | _ =>
    rw [handleTxFail_untransmitting (by simp [hs])]
    exact inv_answered h

/-- R108, R109. -/
theorem inv_mbReceive {t : State} (h : Inv s) (hs : s.seq = .mbRx) (hr : mbReceive s = .next t) : Inv t := by
  obtain ⟨hrun, hx, hne⟩ := axis_running h (.inr (.inl hs))
  have hp := txPend_eq_false h (by simp [hs])
  obtain ⟨-, hresp, -⟩ := h.rx
  obtain rfl | ⟨rest, rxb, n, l, hlen, ht⟩ := mbReceive_outcome hr
  · exact h
  have hrest := standing_rxq (standing_of_inv h) hlen
  obtain ⟨c, d, hc, rfl⟩ | rfl | ⟨hkeep, rfl⟩ := ht
  · exact inv_attemptFail hrest hc hne hrun hp hx
  · exact inv_completeOk hrest hp
  · exact inv_of_mbRx hrest hs hrun hp hx (hkeep (hresp hs)) (rxLimit_pos (s := { s with rxn := n }) h.params)

/-- R110. -/
theorem inv_mbRxTick (h : Inv s) (hs : s.seq = .mbRx) : Inv (mbRxTick s) := by
  obtain ⟨hrun, hx, hne⟩ := axis_running h (.inr (.inl hs))
  have hrest := standing_of_inv h
  have hp := txPend_eq_false h (by simp [hs])
  obtain ⟨hcnt, -, -⟩ := h.wait
  obtain ⟨-, ht⟩ | ⟨-, -, ht⟩ | ⟨-, hlt, ht⟩ := mbRxTick_cases s
  · rwa [ht]
  · rw [ht]
    exact inv_attemptFail (s := { s with cnt := s.cnt + 1 }) hrest rfl hne hrun hp hx
  · rw [ht]
    exact inv_counted h (fun _ => count_lt (hcnt hs) hlt) (by simp [hs]) (by simp [hs])

/-- R112. -/
theorem inv_backoffTick (h : Inv s) (hs : s.seq = .mbBackoff) : Inv (backoffTick s) := by
  obtain ⟨hrun, ⟨hframe, hopen, ha⟩, hne⟩ := axis_running h (.inr (.inr hs))
  obtain ⟨-, -, -, -, hback⟩ := h.tx
  obtain ⟨-, hcnt, -⟩ := h.wait
  have hlt : s.att < 5 := hback hs
  obtain ⟨-, ht⟩ | ⟨hne', ht⟩ := backoffTick_cases s
  · have hle : s.att + 1 ≤ maxAttemptsAxis := by
      simp only [maxAttemptsAxis]
      bv_omega
    rw [ht]
    exact inv_startAttempt { standing_of_inv h with attempts := rfl, attLe := hle } hrun
      ((frameInUse_seq hne (q := .mbTx) nofun).trans hframe) hopen (show s.att + 1 ≠ 0 by bv_omega)
  · rw [ht]
    exact inv_counted h (by simp [hs]) (fun _ => count_lt (hcnt hs) hne') (by simp [hs])

/-- R125. -/
theorem inv_settleTick (h : Inv s) (hs : s.seq = .rlSettle) : Inv (settleTick s) := by
  have hp := txPend_eq_false h (by simp [hs])
  obtain ⟨-, -, hcnt⟩ := h.wait
  obtain ⟨-, ht⟩ | ⟨hne, ht⟩ := settleTick_cases s
  · rw [ht]
    exact inv_completeOk { standing_of_inv h with queue := Nat.zero_le _ } hp
  · rw [ht]
    exact inv_counted h (by simp [hs]) (by simp [hs]) (fun _ => count_lt (hcnt hs) hne)

theorem inv_handleTick (h : Inv s) : Inv (handleTick s) := by
  cases hs : s.seq with
  | mbRx => exact handleTick_mbRx hs ▸ inv_mbRxTick h hs
  | mbBackoff => exact handleTick_mbBackoff hs ▸ inv_backoffTick h hs
  | rlSettle => exact handleTick_rlSettle hs ▸ inv_settleTick h hs
  | _ => rwa [handleTick_untimed (by simp [hs])]

/-- R92. -/
theorem inv_openOk (h : Inv s) (hs : s.seq = .openWait) : Inv (openOk s) := by
  obtain ⟨-, -, hpend⟩ := h.link
  obtain ⟨hra, hdec, -, hboth⟩ := h.addr
  obtain ⟨-, hlegal⟩ := hpend hs
  have hp := txPend_eq_false h (by simp [hs])
  exact inv_completeOk
    { standing_of_inv h with
      closed := nofun
      opened := fun _ => hlegal
      addr := ⟨hra, hdec, show 0#8 ≤ slaveMax by decide, hboth⟩
      queue := Nat.zero_le _ } hp

/-- R93. -/
theorem inv_openFail {c : Byte} (h : Inv s) (hs : s.seq = .openWait) : Inv (openFail c s) :=
  inv_raise (c := .openFailed) (standing_of_inv h) (txPend_eq_false h (by simp [hs]))

/-- R146: the reset values meet every part of the invariant. -/
theorem inv_resetBlock (h : Inv s) : Inv (resetBlock s) :=
  inv_of_idle
    { params := h.params
      okDone := nofun
      attempts := rfl
      attLe := show 0#3 ≤ maxAttemptsAxis by decide
      opcode := rfl
      closed := fun _ => ⟨rfl, rfl, rfl⟩
      opened := nofun
      addr := ⟨show 0#8 ≤ slaveMax by decide, show 0#8 ≤ slaveMax by decide, show 0#8 ≤ slaveMax by decide,
        Iff.rfl⟩
      relay := ⟨show 0#2 ≤ channelMax by decide, show 2#2 ≤ channelMax by decide, show 1#2 ≤ channelMax by decide,
        show 0x30#8 = hexU ((0#8).extractLsb' 4 4) by decide, show 0x30#8 = hexU ((0#8).extractLsb' 0 4) by decide⟩
      err := .inl rfl
      queue := Nat.zero_le _ } rfl rfl

/-- R77. -/
theorem inv_handleInternal {t : State} (h : Inv s) (ht : handleInternal s = .next t) : Inv t := by
  obtain rfl | ⟨hs, ⟨c, d, rfl⟩ | ⟨i, -, hp⟩⟩ | ⟨hs, b, rfl⟩ | ⟨hs, hr⟩ := handleInternal_next ht
  · exact h
  · exact inv_raise (standing_of_inv h) (txPend_eq_false h (by simp [hs]))
  · exact inv_performs h hs hp
  · exact inv_offer h hs
  · exact inv_mbReceive h hs hr

/-- The block's response to an enabled event keeps the invariant (R73, R75). -/
theorem inv_handle {e : Event} {t : State} (h : Inv s) (he : enabled e s = true) (ht : handle e s = .next t) : Inv t := by
  cases e with
  | hostCmd w0 w1 =>
    cases ht
    exact inv_acceptCommand h (by simpa [enabled] using he)
  | hostRead idx =>
    cases ht
    exact inv_readLog h
  | tick =>
    cases ht
    exact inv_handleTick h
  | txAck =>
    cases ht
    exact inv_handleTxAck h
  | txFail =>
    cases ht
    exact inv_handleTxFail h
  | rxByte b err =>
    cases ht
    exact inv_receiveByte h
  | openOk =>
    cases ht
    exact inv_openOk h (by simpa [enabled] using he)
  | openFail c =>
    cases ht
    exact inv_openFail h (by simpa [enabled] using he)
  | internal => exact inv_handleInternal h ht
  | reset =>
    cases ht
    exact inv_resetBlock h

end

/-- Settles O48: the block waits, or responds to the event taken. -/
theorem stepKeepsInvariant : Obligations.StepKeepsInvariant := by
  intro s t h hstep
  obtain ⟨-, rfl⟩ | ⟨e, rest, -, he, ht⟩ := step_cases hstep
  · exact h
  · exact inv_handle (inv_inputs (es := rest) h) he ht

end Sys2Proof.Machine

/-! PROOFS. The transmission of a whole frame (O34): the step that offers the byte at IDX, the two steps of one acknowledged
byte, and the frame byte by byte. -/

namespace Sys2Proof.Machine

open Sys2Proof.Safety Sys2Proof.Claims

/-! ## What decodes as a frame is that frame -/

theorem hi8_append (x y : Byte) : hi8 (x ++ y) = x := BitVec.extractLsb'_append_eq_left

theorem lo8_append (x y : Byte) : lo8 (x ++ y) = y := BitVec.extractLsb'_append_eq_right

/-- A byte with the fixed bits of a channel digit is the digit of its free bits (R71). -/
theorem channelDigit_of_fixed {b : Byte} (h : b.extractLsb' 2 6 = 0b001100#6) : channelDigit (b.extractLsb' 0 2) = b := by
  have hdigit : ∀ ch : BitVec 2, channelDigit ch = 0b001100#6 ++ ch := by decide
  rw [hdigit, ← h]
  exact (BitVec.extractLsb'_append_extractLsb'_eq_extractLsb' (x := b) rfl).trans BitVec.extractLsb'_eq_self

/-- A byte with the fixed bits of a state digit is the digit of its free bit (R71). -/
theorem stateDigit_of_fixed {b : Byte} (h : b.extractLsb' 1 7 = 0b0011000#7) : stateDigit b[0] = b := by
  have hdigit : ∀ st : Bool, stateDigit st = 0b0011000#7 ++ BitVec.ofBool st := by decide
  have hbit : BitVec.ofBool b[0] = b.extractLsb' 0 1 := by
    apply BitVec.eq_of_getLsbD_eq
    intro i hi
    obtain rfl : i = 0 := by omega
    simp
  rw [hdigit, hbit, ← h]
  exact (BitVec.extractLsb'_append_extractLsb'_eq_extractLsb' (x := b) rfl).trans BitVec.extractLsb'_eq_self

/-- The frame decoder reads every bit that its frames leave free (R65, R66, R71). -/
theorem encode_of_decodeWire {bs : List Byte} {i : Instr} (h : decodeWire bs = .instr i) : encode i = .wire bs := by
  unfold decodeWire decodeWire8 at h
  split at h
  · split at h
    · rename_i hfixed
      cases h
      simp [encode, wsrBytes, wsrBody, fieldBytes, crcBytes, hi8_append, lo8_append, hfixed]
    · split at h
      · rename_i hfixed
        obtain ⟨h0, h3, h4, h5, h6, h7⟩ := hfixed
        cases h
        simp [encode, adamBytes, channelDigit_of_fixed h4, stateDigit_of_fixed h6, h0, h3, h5, h7]
      · cases h
  · split at h
    · rename_i hfixed
      cases h
      simp_all [encode, wmrBytes, wmrBody, fieldBytes, crcBytes, hi8_append, lo8_append]
    · cases h
  · cases h

/-! ## One byte -/

/-- The step that transmits offers a byte of the frame buffer, whatever the frame's kind (R105, R122). -/
theorem transmitStep_eq (s : State) : transmitStep s = transmit (frameBytes s) s := by
  cases hd : decodeWire (frameBytes s) with
  | instr i => simp [transmitStep, decode, hd, Decoded.toOption, exec_of_decodeWire hd (encode_of_decodeWire hd)]
  | _ => simp [transmitStep, decode, hd, Decoded.toOption]

/-- The offer of the byte at `IDX` of the bytes `bs`. -/
theorem transmit_of_getElem? {s : State} {bs : List Byte} {b : Byte} (hmay : mayTransmit s = true)
    (hb : bs[s.idx.toNat]? = some b) : transmit bs s = .next { emit (.tx b) s with txPend := true } := by
  rw [transmit, if_pos hmay, hb]

section

variable {s : State} {rest : List Event}

/-- R105, R122: with no byte outstanding, the byte at `IDX` is offered. -/
theorem step_offer (hs : s.seq = .mbTx ∨ s.seq = .rlTx) (hp : s.txPend = false) (hin : s.inputs = .internal :: rest)
    (hlt : s.idx.toNat < s.flen.toNat) (h13 : s.idx.toNat < 13) :
    step s = .next { s with inputs := rest, txPend := true, outputs := s.outputs ++ [.tx s.frame[s.idx.toNat]] } := by
  have hmay : mayTransmit s = true := (mayTransmit_iff s).mpr ⟨hs, hp⟩
  have hbyte : (frameBytes s)[s.idx.toNat]? = some s.frame[s.idx.toNat] := by
    simp [frameBytes, List.getElem?_take_of_lt hlt, h13]
  calc step s
    _ = handleInternal { s with inputs := rest } := step_head hin (by simp [enabled, internalEnabled, hmay])
    _ = transmitStep { s with inputs := rest } := hs.elim (handleInternal_mbTx ·) (handleInternal_rlTx ·)
    _ = transmit (frameBytes s) { s with inputs := rest } := transmitStep_eq _
    _ = _ := transmit_of_getElem? hmay hbyte

theorem step_txAck (hp : s.txPend = true) (hin : s.inputs = .txAck :: rest) :
    step s = .next (handleTxAck { s with inputs := rest }) := step_head hin hp

/-- R106, R123: an acknowledgement before the frame's end only advances `IDX`. -/
theorem handleTxAck_before_end (hs : s.seq = .mbTx ∨ s.seq = .rlTx) (hend : s.idx + 1 ≠ s.flen) :
    handleTxAck s = acknowledgeByte s := by
  obtain hs | hs := hs
  · exact (handleTxAck_mbTx hs).trans (if_neg hend)
  · exact (handleTxAck_rlTx hs).trans (if_neg hend)

/-- R106, R123: the acknowledgement of the last byte starts the wait for the response, or the settle. -/
theorem handleTxAck_at_end (hs : s.seq = .mbTx ∨ s.seq = .rlTx) (hend : s.idx + 1 = s.flen) :
    handleTxAck s = { acknowledgeByte s with cnt := 0, seq := if s.seq = .mbTx then .mbRx else .rlSettle } := by
  obtain hs | hs := hs
  · rw [handleTxAck_mbTx hs, if_pos hs]
    exact if_pos hend
  · rw [handleTxAck_rlTx hs, if_neg (by simp [hs])]
    exact if_pos hend

/-- The block offers the byte at `IDX`, and the PHY acknowledges it (R49). -/
theorem run_offer_ack (hs : s.seq = .mbTx ∨ s.seq = .rlTx) (hp : s.txPend = false)
    (hin : s.inputs = .internal :: .txAck :: rest) (hlt : s.idx.toNat < s.flen.toNat) (h13 : s.idx.toNat < 13) :
    run 2 s = .next
      (handleTxAck { s with inputs := rest, txPend := true, outputs := s.outputs ++ [.tx s.frame[s.idx.toNat]] }) := by
  rw [run_succ_of_step (step_offer hs hp hin hlt h13), run_succ_of_step (step_txAck rfl rfl)]
  rfl

end

/-! ## The whole frame -/

/-- The first `n` bytes of the frame have been offered and acknowledged, and `rest` is still to come. -/
def sent (n : Nat) (rest : List Event) (s : State) : State :=
  { s with
    inputs := rest
    idx := BitVec.ofNat 4 n
    outputs := s.outputs ++ (s.frame.toList.take n).map Output.tx
    wire := s.wire ++ s.frame.toList.take n }

/-- Then the next byte has been offered. -/
def offered (n : Nat) (h : n < 13) (rest : List Event) (s : State) : State :=
  { sent n rest s with txPend := true, outputs := (sent n rest s).outputs ++ [.tx s.frame[n]] }

theorem acks_succ_append (n : Nat) (rest : List Event) : acks (n + 1) ++ rest = acks n ++ .internal :: .txAck :: rest := by
  simp [acks, List.replicate_succ']

section

variable {s : State} {n : Nat} {rest : List Event}

theorem sent_zero (hidx : s.idx = 0) (hin : s.inputs = rest) : sent 0 rest s = s := by
  cases s
  simp_all [sent]

/-- The acknowledgement puts the byte offered on the wire (R74). -/
theorem acknowledgeByte_offered (hp : s.txPend = false) (h : n < 13) :
    acknowledgeByte (offered n h rest s) = sent (n + 1) rest s := by
  have hidx : (BitVec.ofNat 4 n).toNat = n := Nat.mod_eq_of_lt (by omega)
  have htake : s.frame.toList.take (n + 1) = s.frame.toList.take n ++ [s.frame[n]] := by
    simp [List.take_add_one, h]
  simp [acknowledgeByte, offered, sent, hidx, htake, h, hp, BitVec.ofNat_add]

/-- The byte offered is the frame's last one. -/
theorem offered_last_iff (h : n < 13) :
    (offered n h rest s).idx + 1 = (offered n h rest s).flen ↔ n + 1 = s.flen.toNat := by
  have hidx : (BitVec.ofNat 4 n + 1).toNat = n + 1 := by bv_omega
  rw [← hidx]
  exact BitVec.toNat_inj.symm

variable (hs : s.seq = .mbTx ∨ s.seq = .rlTx) (hp : s.txPend = false) (h13 : s.flen.toNat ≤ 13)
include hs hp h13

/-- One more byte is offered and acknowledged. -/
theorem run_sent (hn : n < s.flen.toNat) :
    run 2 (sent n (.internal :: .txAck :: rest) s) = .next (handleTxAck (offered n (by omega) rest s)) := by
  have hidx : (BitVec.ofNat 4 n).toNat = n := Nat.mod_eq_of_lt (by omega)
  have hrun := run_offer_ack (s := sent n (.internal :: .txAck :: rest) s) hs hp rfl (hidx.trans_lt hn)
    (hidx.trans_lt (by omega))
  rw [hrun]
  simp [offered, sent, hidx]

/-- The PHY acknowledges `n` bytes, short of the frame's end. -/
theorem run_acks (hidx : s.idx = 0) (hn : n < s.flen.toNat) (hin : s.inputs = acks n ++ rest) :
    run (2 * n) s = .next (sent n rest s) := by
  induction n generalizing rest with
  | zero => exact congrArg Host.Outcome.next (sent_zero hidx hin).symm
  | succ n ih =>
    have hsent := ih (by omega) (hin.trans (acks_succ_append n rest))
    have hmore := mt (offered_last_iff (s := s) (rest := rest) (by omega : n < 13)).mp (by omega)
    rw [Nat.mul_succ, run_add hsent, run_sent hs hp h13 (by omega),
      handleTxAck_before_end (s := offered n (by omega) rest s) hs hmore, acknowledgeByte_offered hp]

end

/-- Settles O34: all bytes but the last, one by one, then the last. -/
theorem frameGoesOutWholeAndInOrder : Obligations.FrameGoesOutWholeAndInOrder := by
  intro s rest hs hp hidx hpos h13 hin
  obtain ⟨n, hn⟩ : ∃ n, s.flen.toNat = n + 1 := Nat.exists_eq_succ_of_ne_zero (by simpa [BitVec.toNat_eq] using hpos)
  have hlast : BitVec.ofNat 4 (n + 1) = s.flen := by rw [← hn, BitVec.ofNat_toNat, BitVec.setWidth_eq]
  have hend := (offered_last_iff (s := s) (rest := rest) (by omega : n < 13)).mpr hn.symm
  have hsent := run_acks hs hp h13 hidx (by omega) ((hn ▸ hin).trans (acks_succ_append n rest))
  rw [hn, Nat.mul_succ, run_add hsent, run_sent hs hp h13 (by omega),
    handleTxAck_at_end (s := offered n (by omega) rest s) hs hend, acknowledgeByte_offered hp]
  simp [sent, hlast, offered]

end Sys2Proof.Machine

/-! PROOFS. The half-duplex discipline (O52): most steps are quiet on the bus, and each of the rest obeys its own rule. -/

namespace Sys2Proof.Machine

open Sys2Proof.Safety Sys2Proof.Claims

/-! ## Quiet steps -/

/-- What a step may do to the receive queue while it emits `os` (R50): keep it, take in one byte (R80), take its first entry
in `MB_RX` (R108), or flush it (R51). -/
def QueueDisciplined (os : List Output) (s t : State) : Prop :=
  t.rxq = s.rxq ∨ (∃ e, t.rxq = s.rxq ++ [e]) ∨ (s.seq = .mbRx ∧ t.rxq = s.rxq.tail) ∨ (t.rxq = [] ∧ .flush ∈ os)

/-- A step that is quiet on the bus: it offers no byte, starts no reception, and starts no axis transmission but from
`DISPATCH` or `MB_BACKOFF`. -/
def Quiet (s t : State) : Prop :=
  ∃ os, t.outputs = s.outputs ++ os ∧ os.countP isTx = 0 ∧ QueueDisciplined os s t ∧ (t.seq = .mbRx → s.seq = .mbRx) ∧
    (t.seq = .mbTx → s.seq ∈ [.mbTx, .dispatch, .mbBackoff])

/-- What the schedule of events holds is no part of it. -/
theorem Quiet.of_inputs {s t : State} {es : List Event} (h : Quiet { s with inputs := es } t) : Quiet s t := h

section

variable {s t u : State}

/-- More output only allows more. -/
theorem QueueDisciplined.mono {os os' : List Output} (h : QueueDisciplined os s t) (hsub : os ⊆ os') :
    QueueDisciplined os' s t :=
  h.imp_right (Or.imp_right (Or.imp_right (And.imp_right (hsub ·))))

theorem QueueDisciplined.of_rxq {os : List Output} (h : QueueDisciplined os s u) (hrxq : t.rxq = u.rxq) :
    QueueDisciplined os s t := by
  rwa [QueueDisciplined, hrxq]

/-- A step that stays in its state of the sequencer, or goes where nothing starts. -/
theorem quiet_of_seq (os : List Output) (hout : t.outputs = s.outputs ++ os) (htx : os.countP isTx = 0)
    (hq : QueueDisciplined os s t) (hseq : t.seq = s.seq ∨ t.seq ∉ [.mbRx, .mbTx]) : Quiet s t := by
  refine ⟨os, hout, htx, hq, ?_⟩
  obtain hseq | hseq := hseq
  · simp +contextual [hseq]
  · obtain ⟨hrx, hmb⟩ : t.seq ≠ .mbRx ∧ t.seq ≠ .mbTx := by simpa using hseq
    exact ⟨fun h => absurd h hrx, fun h => absurd h hmb⟩

/-- Such a step that emits nothing. -/
theorem quiet_of_silent (hout : t.outputs = s.outputs) (hq : QueueDisciplined [] s t)
    (hseq : t.seq = s.seq ∨ t.seq ∉ [.mbRx, .mbTx]) : Quiet s t :=
  quiet_of_seq [] (by simp [hout]) rfl hq hseq

/-! ## The shared operations -/

/-- Recovery flushes the queue or does nothing (R111). -/
theorem recover_queue (u : State) :
    ∃ os, (recover u).outputs = u.outputs ++ os ∧ os.countP isTx = 0 ∧
      ((recover u).rxq = u.rxq ∨ ((recover u).rxq = [] ∧ .flush ∈ os)) := by
  rw [recover_eq]
  split
  · exact ⟨[.reinit, .flush], rfl, rfl, .inr ⟨rfl, by simp⟩⟩
  · exact ⟨[], by simp, rfl, .inl rfl⟩

/-- A failed attempt, from a state that has at most taken in a byte, is quiet. -/
theorem attemptFail_quiet {c : Cause} {d : Byte} (hout : u.outputs = s.outputs) (hq : QueueDisciplined [] s u) :
    Quiet s (attemptFail c d u) := by
  obtain ⟨os, hos, htx, hrec⟩ := recover_queue u
  have hqueue : QueueDisciplined os s (recover u) := by
    obtain hkept | ⟨hnil, hflush⟩ := hrec
    · exact (hq.mono (List.nil_subset os)).of_rxq hkept
    · exact .inr (.inr (.inr ⟨hnil, hflush⟩))
  obtain ⟨-, ht⟩ | ⟨-, ht⟩ := attemptFail_cases c d u
  · rw [ht]
    exact quiet_of_seq (os ++ [.done false]) (by simp [hos, hout]) (by simp [htx, isTx])
      ((hqueue.mono (by simp)).of_rxq rfl) (.inr (by simp))
  · rw [ht]
    exact quiet_of_seq os (by simp [hos, hout]) htx (hqueue.of_rxq rfl) (.inr (by simp))

theorem receiveByte_quiet (b : Byte) (err : Bool) (s : State) : Quiet s (receiveByte b err s) := by
  obtain ⟨-, h⟩ | ⟨-, h⟩ := receiveByte_cases b err s
  · exact h ▸ quiet_of_silent rfl (.inr (.inl ⟨_, rfl⟩)) (.inl rfl)
  · exact h ▸ quiet_of_silent rfl (.inl rfl) (.inl rfl)

theorem completeOk_quiet (hout : u.outputs = s.outputs) (hq : QueueDisciplined [] s u) : Quiet s (completeOk u) :=
  quiet_of_seq [.done true] (by simp [hout]) rfl ((hq.mono (by simp)).of_rxq rfl) (.inr (by simp))

/-- The check of a response is quiet, from a state that has at most taken a byte. -/
theorem checkWhole_quiet (h : checkWhole u = .next t) (hout : u.outputs = s.outputs) (hseq : u.seq = s.seq)
    (hq : QueueDisciplined [] s u) : Quiet s t := by
  obtain ⟨c, d, -, rfl⟩ | rfl | ⟨-, rfl⟩ := checkWhole_outcome h
  · exact attemptFail_quiet hout hq
  · exact completeOk_quiet hout hq
  · exact quiet_of_silent hout hq (.inl hseq)

/-- The receive step takes the first entry of the queue, whatever comes of it (R108). -/
theorem mbReceive_quiet (hs : s.seq = .mbRx) (h : mbReceive s = .next t) : Quiet s t := by
  obtain ⟨-, rfl⟩ | ⟨e, rest, hrxq, hend⟩ := mbReceive_next h
  · exact quiet_of_silent rfl (.inl rfl) (.inl rfl)
  have hq {u : State} (hu : u.rxq = rest) : QueueDisciplined [] s u := .inr (.inr (.inl ⟨hs, by simp [hu, hrxq]⟩))
  obtain ⟨-, rfl⟩ | ⟨-, -, hn, hb⟩ := hend
  · exact attemptFail_quiet rfl (hq rfl)
  · obtain ⟨-, -, hc⟩ | ⟨-, -, -, hc⟩ | ⟨-, -, -, rfl⟩ | ⟨-, hc⟩ := byteStored_next hb
    · exact checkWhole_quiet hc rfl rfl (hq rfl)
    · exact checkWhole_quiet hc rfl rfl (hq rfl)
    · exact attemptFail_quiet rfl (hq rfl)
    · exact checkWhole_quiet hc rfl rfl (hq rfl)

/-- The start of an attempt emits at most its Trace (R96, R104). -/
theorem startAttempt_quiet (hs : s.seq ∈ [.mbTx, .dispatch, .mbBackoff]) (hout : u.outputs = s.outputs)
    (hq : u.rxq = s.rxq) : Quiet s (startAttempt u) := by
  rw [startAttempt_eq]
  refine ⟨_, congrArg (· ++ _) hout, ?_, .inl hq, by simp, fun _ => hs⟩
  split <;> rfl

/-! ## Every response to an event -/

theorem handleTick_quiet (s : State) : Quiet s (handleTick s) := by
  cases hs : s.seq with
  | mbRx =>
    rw [handleTick_mbRx hs]
    obtain ⟨-, h⟩ | ⟨-, -, h⟩ | ⟨-, -, h⟩ := mbRxTick_cases s
    · rw [h]
      exact quiet_of_silent rfl (.inl rfl) (.inl rfl)
    · exact h ▸ attemptFail_quiet rfl (.inl rfl)
    · exact h ▸ quiet_of_silent rfl (.inl rfl) (.inl rfl)
  | mbBackoff =>
    rw [handleTick_mbBackoff hs]
    obtain ⟨-, h⟩ | ⟨-, h⟩ := backoffTick_cases s
    · exact h ▸ startAttempt_quiet (by simp [hs]) rfl rfl
    · exact h ▸ quiet_of_silent rfl (.inl rfl) (.inl rfl)
  | rlSettle =>
    rw [handleTick_rlSettle hs]
    obtain ⟨-, h⟩ | ⟨-, h⟩ := settleTick_cases s
    · exact h ▸ quiet_of_seq [.flush, .done true] (by simp) rfl (.inr (.inr (.inr ⟨rfl, by simp⟩))) (.inr (by simp))
    · exact h ▸ quiet_of_silent rfl (.inl rfl) (.inl rfl)
  | _ =>
    rw [handleTick_untimed (by simp [hs])]
    exact quiet_of_silent rfl (.inl rfl) (.inl rfl)

/-- An acknowledgement is quiet, but for that of the last byte of an axis frame (R106). -/
theorem handleTxAck_quiet_or (s : State) :
    Quiet s (handleTxAck s) ∨
      (s.seq = .mbTx ∧ s.idx + 1 = s.flen ∧ handleTxAck s = { acknowledgeByte s with cnt := 0, seq := .mbRx }) := by
  cases hs : s.seq with
  | mbTx =>
    rw [handleTxAck_mbTx hs]
    obtain h | ⟨-, h⟩ := mbTxAck_cases s
    · exact .inr ⟨rfl, h⟩
    · rw [h]
      exact .inl (quiet_of_silent rfl (.inl rfl) (.inl rfl))
  | rlTx =>
    rw [handleTxAck_rlTx hs]
    obtain ⟨-, h⟩ | ⟨-, h⟩ := rlTxAck_cases s
    · exact h ▸ .inl (quiet_of_silent rfl (.inl rfl) (.inr (by simp)))
    · rw [h]
      exact .inl (quiet_of_silent rfl (.inl rfl) (.inl rfl))
  | _ =>
    rw [handleTxAck_untransmitting (by simp [hs])]
    exact .inl (quiet_of_silent rfl (.inl rfl) (.inl rfl))

theorem raise_quiet {cls : ErrClass} {c : Cause} {d : Byte} (hout : u.outputs = s.outputs) (hq : u.rxq = s.rxq) :
    Quiet s (raise cls c d u) :=
  quiet_of_seq [.done false] (by simp [hout]) rfl (.inl hq) (.inr (by simp))

theorem handleTxFail_quiet (s : State) : Quiet s (handleTxFail s) := by
  cases hs : s.seq with
  | mbTx =>
    rw [handleTxFail_mbTx hs]
    exact attemptFail_quiet rfl (.inl rfl)
  | rlTx =>
    rw [handleTxFail_rlTx hs]
    exact raise_quiet rfl rfl
  | _ =>
    rw [handleTxFail_untransmitting (by simp [hs])]
    exact quiet_of_silent rfl (.inl rfl) (.inl rfl)

/-- No command offers a byte in its dispatch step; LINK_CLOSE flushes the queue (R94), and the axis commands start their
transmission. -/
theorem Performs.quiet {i : Instr} (h : Performs s i t) (hs : s.seq = .dispatch) : Quiet s t := by
  cases h with
  | linkOpen => exact quiet_of_seq [.openLink _ _] rfl rfl (.inl rfl) (.inr (by simp))
  | linkClose =>
    exact quiet_of_seq [.flush, .close, .done true] (by simp) rfl (.inr (.inr (.inr ⟨rfl, by simp⟩))) (.inr (by simp))
  | linkCloseAgain | setDebug | setRecovery | cfgAxisAddr | cfgRelay => exact completeOk_quiet rfl (.inl rfl)
  | setRaSpeed | setDecSpeed | stopDec => exact startAttempt_quiet (by simp [hs]) rfl rfl
  | relay _ ch st =>
    rw [startRelay_eq]
    exact quiet_of_seq _ rfl (by split <;> rfl) (.inl rfl) (.inr (by simp))

/-! ## The steps that are not quiet -/

/-- R77: while transmitting, `Internal` waits for the answer to the byte outstanding. -/
theorem txPend_of_internal (hs : s.seq = .mbTx ∨ s.seq = .rlTx) (h : enabled .internal s = true) : s.txPend = false := by
  have hne : s.seq ≠ .dispatch ∧ s.seq ≠ .mbRx := by
    obtain hs | hs := hs <;> simp [hs]
  have hmay : mayTransmit s = true := by simpa [enabled, internalEnabled, hne] using h
  exact ((mayTransmit_iff s).mp hmay).2

/-- A step is quiet, or a Reset, or the offer of a byte, or the acknowledgement of an axis frame's last byte. -/
theorem step_quiet_or (h : step s = .next t) :
    Quiet s t ∨
    (∃ rest, nextEvent s = some (.reset, rest) ∧ t = resetBlock { s with inputs := rest }) ∨
    ((s.seq = .mbTx ∨ s.seq = .rlTx) ∧ s.txPend = false ∧
      ∃ rest b, t = { emit (.tx b) { s with inputs := rest } with txPend := true }) ∨
    (s.seq = .mbTx ∧ s.txPend = true ∧ s.idx + 1 = s.flen ∧ ∃ rest, nextEvent s = some (.txAck, rest) ∧
      t = { acknowledgeByte { s with inputs := rest } with cnt := 0, seq := .mbRx }) := by
  obtain ⟨-, rfl⟩ | ⟨e, rest, hn, hen, hh⟩ := step_cases h
  · exact .inl (quiet_of_silent rfl (.inl rfl) (.inl rfl))
  cases e with
  | hostCmd w0 w1 =>
    cases hh
    exact .inl (quiet_of_silent rfl (.inl rfl) (.inr (by simp)))
  | hostRead idx =>
    cases hh
    exact .inl (quiet_of_silent rfl (.inl rfl) (.inl rfl))
  | tick =>
    cases hh
    exact .inl (handleTick_quiet _).of_inputs
  | txAck =>
    cases hh
    obtain hq | ⟨hs, hend, ht⟩ := handleTxAck_quiet_or { s with inputs := rest }
    · exact .inl hq.of_inputs
    · exact .inr (.inr (.inr ⟨hs, hen, hend, rest, hn, ht⟩))
  | txFail =>
    cases hh
    exact .inl (handleTxFail_quiet _).of_inputs
  | rxByte b err =>
    cases hh
    exact .inl (receiveByte_quiet b err _).of_inputs
  | openOk =>
    cases hh
    exact .inl (quiet_of_seq [.flush, .done true] (by simp [openOk]) rfl (.inr (.inr (.inr ⟨rfl, by simp⟩)))
      (.inr (by simp [openOk])))
  | openFail c =>
    cases hh
    exact .inl (raise_quiet rfl rfl)
  | internal =>
    obtain rfl | ⟨hs, ⟨c, d, rfl⟩ | ⟨i, -, hp⟩⟩ | ⟨hs, b, rfl⟩ | ⟨hs, hr⟩ := handleInternal_next hh
    · exact .inl (quiet_of_silent rfl (.inl rfl) (.inl rfl))
    · exact .inl (raise_quiet rfl rfl)
    · exact .inl (hp.quiet hs).of_inputs
    · exact .inr (.inr (.inl ⟨hs, txPend_of_internal hs hen, rest, b, rfl⟩))
    · exact .inl (mbReceive_quiet hs hr).of_inputs
  | reset =>
    cases hh
    exact .inr (.inl ⟨rest, hn, rfl⟩)

end

/-- Settles O52: a quiet step keeps every clause, and of the three other kinds each does what its clause allows. -/
theorem halfDuplexDiscipline : Obligations.HalfDuplexDiscipline := by
  intro s t hstep
  obtain ⟨os, hout, htx, hq, hrx, hmb⟩ | ⟨rest, hn, rfl⟩ | ⟨hs, hp, rest, b, rfl⟩ | ⟨hs, hp, hend, rest, hn, rfl⟩ :=
    step_quiet_or hstep
  · refine ⟨.inl (by simp [hout, htx]), ?_, fun h hne => absurd (hrx h) hne, fun h hne => ?_⟩
    · simpa [hout] using hq.imp_right (Or.imp_right (Or.imp_right (And.imp_right Or.inl)))
    · simpa [hne] using hmb h
  · exact ⟨.inl rfl, .inr (.inr (.inr ⟨rfl, .inr ⟨rest, hn⟩⟩)), nofun, nofun⟩
  · exact ⟨.inr ⟨by simp [isTx], hs, hp, rfl⟩, .inl rfl, fun h hne => absurd h hne, fun h hne => absurd h hne⟩
  · exact ⟨.inl rfl, .inl rfl, fun _ _ => ⟨hs, hp, ⟨rest, hn⟩, rfl, hend, rfl⟩, nofun⟩

end Sys2Proof.Machine

/-! PROOFS. The decoder and the encoder of commands (O1, O2, O3, O6), and the dispatch steps that refuse a word (O4, O5). -/

namespace Sys2Proof.Machine

open Sys2Proof.Safety Sys2Proof.Claims Sys2Proof.Laws

/-! ## The opcode and the reserved bits -/

/-- The column "opcode" of R59. -/
def opcodeByte : Opcode → Byte
  | .linkOpen => 0x01
  | .linkClose => 0x02
  | .setDebug => 0x03
  | .setRecovery => 0x04
  | .cfgAxisAddr => 0x05
  | .cfgRelay => 0x06
  | .setRaSpeed => 0x10
  | .setDecSpeed => 0x11
  | .stopDec => 0x12
  | .setRelay => 0x20
  | .powerOn => 0x21
  | .powerOff => 0x22
  | .dplusOn => 0x23
  | .dplusOff => 0x24
  | .dminusOn => 0x25
  | .dminusOff => 0x26

theorem opcodeOf?_opcodeByte (o : Opcode) : opcodeOf? (opcodeByte o) = some o := by
  cases o <;> rfl

theorem opcodeOf?_eq_some_iff {b : Byte} {o : Opcode} : opcodeOf? b = some o ↔ b = opcodeByte o := by
  constructor
  · intro h
    unfold opcodeOf? at h
    split at h <;> cases h <;> exact BitVec.eq_of_toNat_eq ‹_›
  · rintro rfl
    exact opcodeOf?_opcodeByte o

/-- R60: the reserved opcodes are in no row of R59. -/
theorem opcodeOf?_eq_none_of_reserved {b : Byte} (h : reservedOpcode b) : opcodeOf? b = none := by
  have hrow (o : Opcode) : ¬ reservedOpcode (opcodeByte o) := by
    cases o <;> simp [reservedOpcode, opcodeByte]
  cases ho : opcodeOf? b with
  | none => rfl
  | some o => exact absurd (opcodeOf?_eq_some_iff.mp ho ▸ h) (hrow o)

theorem reservedBit_eq_none_iff {f : Format} {w : Word} : reservedBit f w = none ↔ w &&& reservedMask f = 0 :=
  lowestSetBit_eq_none _

/-- A command decodes where its opcode is in R59 and its reserved bits are 0 (R60, R61), to its operands (R57, R58). -/
theorem decodeCommand_eq_instr_iff {w0 w1 : Word} {i : Instr} :
    decode (.command w0 w1) = .instr i ↔
      ∃ o, opcodeOf? (opcodeField w0) = some o ∧ w0 &&& reservedMask (formatOf o) = 0 ∧ i = instrOf o w0 w1 := by
  simp only [decode, decodeCommand, ← reservedBit_eq_none_iff]
  cases ho : opcodeOf? (opcodeField w0) with
  | none => simp
  | some o =>
    cases hr : reservedBit (formatOf o) w0 with
    | some n => simp [hr]
    | none => simp [hr, eq_comm]

/-! ## Decoding what is encoded -/

/-- A command whose words have the bits of its table row decodes to itself where the operand fields read back (R57). -/
theorem decode_encode_of_row {i : Instr} {o : Opcode} {w0 w1 : Word}
    (hrow : commandRow ((opcodeByte o).setWidth 32) (reservedMask (formatOf o)) i) (henc : encode i = .command w0 w1)
    (hfields : instrOf o w0 w1 = i) : decode (encode i) = .instr i := by
  obtain ⟨x, y, hxy, hopc, hrsv⟩ := hrow
  obtain ⟨rfl, rfl⟩ : w0 = x ∧ w1 = y := by simpa using henc.symm.trans hxy
  have hopcode : opcodeField w0 = opcodeByte o := by
    have hlow : (w0 &&& 0x000000FF).extractLsb' 0 8 = opcodeField w0 := by
      rw [BitVec.extractLsb'_and]
      exact BitVec.and_allOnes
    rw [← hlow, hopc]
    cases o <;> rfl
  rw [henc, decodeCommand_eq_instr_iff]
  exact ⟨o, opcodeOf?_eq_some_iff.mpr hopcode, hrsv, hfields.symm⟩

/-- Settles O1: the operand fields of a command's words read back, one constructor at a time; a frame's bytes are read by
`decodeWire`. -/
theorem decodeOfEncodeIsIdentity : Obligations.DecodeOfEncodeIsIdentity := by
  intro i
  cases i with
  | linkOpen p d sb baud =>
    exact decode_encode_of_row (o := .linkOpen) (EncodesItsRow.linkOpen p d sb baud) rfl
      ((Instr.linkOpen.injEq ..).mpr ⟨field_above field_lowest, field_above (field_above (field_above field_lowest)),
        field_above (field_above (field_above (field_above field_lowest))), rfl⟩)
  | setDebug en =>
    exact decode_encode_of_row (o := .setDebug) (EncodesItsRow.setDebug en) rfl (congrArg _ (bit_above bit_lowest))
  | setRecovery en =>
    exact decode_encode_of_row (o := .setRecovery) (EncodesItsRow.setRecovery en) rfl
      (congrArg _ (bit_above bit_lowest))
  | cfgAxisAddr ra dec =>
    exact decode_encode_of_row (o := .cfgAxisAddr) (EncodesItsRow.cfgAxisAddr ra dec) rfl
      (congrArg₂ _ (field_above field_lowest) (field_above (field_above field_lowest)))
  | cfgRelay m cp cm cd =>
    exact decode_encode_of_row (o := .cfgRelay) (EncodesItsRow.cfgRelay m cp cm cd) rfl
      ((Instr.cfgRelay.injEq ..).mpr ⟨field_above field_lowest, field_above (field_above field_lowest),
        field_above (field_above (field_above field_lowest)),
        field_above (field_above (field_above (field_above field_lowest)))⟩)
  | setRaSpeed v =>
    exact decode_encode_of_row (o := .setRaSpeed) (EncodesItsRow.setRaSpeed v) rfl (congrArg _ field_lowest)
  | setDecSpeed v d =>
    exact decode_encode_of_row (o := .setDecSpeed) (EncodesItsRow.setDecSpeed v d) rfl
      (congrArg₂ _ field_lowest BitVec.extractLsb'_append_eq_left)
  | setRelay ch st =>
    exact decode_encode_of_row (o := .setRelay) (EncodesItsRow.setRelay ch st) rfl
      (congrArg₂ _ (field_above field_lowest) (bit_above (bit_above (bit_above bit_lowest))))
  | linkClose => exact decode_encode_of_row (o := .linkClose) EncodesItsRow.linkClose rfl rfl
  | stopDec => exact decode_encode_of_row (o := .stopDec) EncodesItsRow.stopDec rfl rfl
  | powerOn => exact decode_encode_of_row (o := .powerOn) EncodesItsRow.powerOn rfl rfl
  | powerOff => exact decode_encode_of_row (o := .powerOff) EncodesItsRow.powerOff rfl rfl
  | dplusOn => exact decode_encode_of_row (o := .dplusOn) EncodesItsRow.dplusOn rfl rfl
  | dplusOff => exact decode_encode_of_row (o := .dplusOff) EncodesItsRow.dplusOff rfl rfl
  | dminusOn => exact decode_encode_of_row (o := .dminusOn) EncodesItsRow.dminusOn rfl rfl
  | dminusOff => exact decode_encode_of_row (o := .dminusOff) EncodesItsRow.dminusOff rfl rfl
  | read idx => rfl
  | wsrFrame a v c => exact decodeWire_wsrBytes a v c
  | wmrFrame a d v c => exact decodeWire_wmrBytes a d v c
  | adamFrame h l k st => exact decodeWire_adamBytes h l k st

/-- Settles O3: the written words are those the encoder writes. -/
theorem writtenWordsDecode : Obligations.WrittenWordsDecode :=
  ⟨decodeOfEncodeIsIdentity (.linkOpen 0 8 1 9600), decodeOfEncodeIsIdentity (.cfgAxisAddr 1 2),
    decodeOfEncodeIsIdentity (.cfgRelay 26 0 2 1), decodeOfEncodeIsIdentity (.setDecSpeed 5000 1),
    decodeOfEncodeIsIdentity (.setRelay 1 true), decodeOfEncodeIsIdentity (.wsrFrame 1 5000 0x5EC6),
    decodeOfEncodeIsIdentity (.adamFrame 0x31 0x41 1 true)⟩

/-! ## Encoding what was decoded -/

/-- A field on top of the field below it is the field of both. -/
theorem fields_join {w m k n : Nat} {x : BitVec w} {y : BitVec m} {z : BitVec n} (hy : y = x.extractLsb' (k + n) m)
    (hz : z = x.extractLsb' k n) : y ++ z = x.extractLsb' k (m + n) := by
  rw [hy, hz]
  exact BitVec.extractLsb'_append_extractLsb'_eq_extractLsb' rfl

/-- The field of all bits is the word. -/
theorem word_of_fields {w : Nat} {x y : BitVec w} (h : y = x.extractLsb' 0 w) : y = x :=
  h.trans BitVec.extractLsb'_eq_self

/-- A field of which every bit is masked out. -/
theorem field_eq_zero_of_masked {w m : Word} {k n : Nat} (h : w &&& m = 0)
    (hm : m.extractLsb' k n = BitVec.allOnes n) : 0#n = w.extractLsb' k n := by
  have hfield := congrArg (BitVec.extractLsb' k n) h
  rw [BitVec.extractLsb'_and, hm, BitVec.and_allOnes] at hfield
  simpa using hfield.symm

/-- A flag is a field of one bit. -/
theorem ofBool_getLsbD {w k : Nat} (x : BitVec w) : BitVec.ofBool (x.getLsbD k) = x.extractLsb' k 1 := by
  apply BitVec.eq_of_getLsbD_eq
  intro i hi
  obtain rfl : i = 0 := by omega
  simp

/-- Where every bit but the opcode is reserved, the word is the opcode (format N, and W0 of SR and SD). -/
theorem formatN_eq_word {w : Word} {b : Byte} (hop : opcodeField w = b) (hrsv : w &&& 0xFFFFFF00 = 0) :
    (0#24 ++ b : BitVec 32) = w :=
  word_of_fields (fields_join (field_eq_zero_of_masked hrsv rfl) hop.symm)

/-- W0 of format FL is put together again from its fields. -/
theorem formatFL_eq_word {w : Word} {b : Byte} (hop : opcodeField w = b) (hrsv : w &&& 0xFFFFFE00 = 0) :
    (0#23 ++ BitVec.ofBool (w.getLsbD 8) ++ b : BitVec 32) = w :=
  word_of_fields (fields_join (fields_join (field_eq_zero_of_masked hrsv rfl) (ofBool_getLsbD w)) hop.symm)

/-- W0 of format LK is put together again from its fields. -/
theorem formatLK_eq_word {w : Word} {b : Byte} (hop : opcodeField w = b) (hrsv : w &&& 0xFFFC0C00 = 0) :
    (0#14 ++ w.extractLsb' 16 2 ++ w.extractLsb' 12 4 ++ 0#2 ++ w.extractLsb' 8 2 ++ b : BitVec 32) = w :=
  word_of_fields (fields_join (fields_join (fields_join (fields_join (fields_join
    (field_eq_zero_of_masked hrsv rfl) rfl) rfl) (field_eq_zero_of_masked hrsv rfl)) rfl) hop.symm)

/-- W0 of format AX is put together again from its fields. -/
theorem formatAX_eq_word {w : Word} {b : Byte} (hop : opcodeField w = b) (hrsv : w &&& 0xFF000000 = 0) :
    (0#8 ++ w.extractLsb' 16 8 ++ w.extractLsb' 8 8 ++ b : BitVec 32) = w :=
  word_of_fields (fields_join (fields_join (fields_join (field_eq_zero_of_masked hrsv rfl) rfl) rfl) hop.symm)

/-- W0 of format RC is put together again from its fields. -/
theorem formatRC_eq_word {w : Word} {b : Byte} (hop : opcodeField w = b) (hrsv : w &&& 0xFFC00000 = 0) :
    (0#10 ++ w.extractLsb' 20 2 ++ w.extractLsb' 18 2 ++ w.extractLsb' 16 2 ++ w.extractLsb' 8 8 ++ b : BitVec 32) = w :=
  word_of_fields (fields_join (fields_join (fields_join (fields_join (fields_join
    (field_eq_zero_of_masked hrsv rfl) rfl) rfl) rfl) rfl) hop.symm)

/-- W0 of format RL is put together again from its fields. -/
theorem formatRL_eq_word {w : Word} {b : Byte} (hop : opcodeField w = b) (hrsv : w &&& 0xFFFFEC00 = 0) :
    (0#19 ++ BitVec.ofBool (w.getLsbD 12) ++ 0#2 ++ w.extractLsb' 8 2 ++ b : BitVec 32) = w :=
  word_of_fields (fields_join (fields_join (fields_join (fields_join
    (field_eq_zero_of_masked hrsv rfl) (ofBool_getLsbD w)) (field_eq_zero_of_masked hrsv rfl)) rfl) hop.symm)

/-- Format SR ignores the upper half of W1. -/
theorem low_half_eq_masked (w : Word) : (0#16 ++ w.extractLsb' 0 16 : BitVec 32) = w &&& 0x0000FFFF := by
  refine word_of_fields (fields_join ?_ ?_)
  · rw [BitVec.extractLsb'_and]
    exact BitVec.and_zero.symm
  · rw [BitVec.extractLsb'_and]
    exact BitVec.and_allOnes.symm

/-- The encoder writes back every bit of a command that R57 marks neither reserved nor ignored. -/
theorem encode_instrOf {o : Opcode} {w0 w1 : Word} (hop : opcodeOf? (opcodeField w0) = some o)
    (hrsv : w0 &&& reservedMask (formatOf o) = 0) :
    encode (instrOf o w0 w1) = .command w0 (w1 &&& readMask (formatOf o)) := by
  have hopc := opcodeOf?_eq_some_iff.mp hop
  have hall : w1 = w1 &&& 0xFFFFFFFF#32 := BitVec.and_allOnes.symm
  have hnone : 0#32 = w1 &&& 0#32 := BitVec.and_zero.symm
  cases o with
  | linkOpen => exact congrArg₂ Encoded.command (formatLK_eq_word hopc hrsv) hall
  | setDebug | setRecovery => exact congrArg₂ Encoded.command (formatFL_eq_word hopc hrsv) hnone
  | cfgAxisAddr => exact congrArg₂ Encoded.command (formatAX_eq_word hopc hrsv) hnone
  | cfgRelay => exact congrArg₂ Encoded.command (formatRC_eq_word hopc hrsv) hnone
  | setRaSpeed => exact congrArg₂ Encoded.command (formatN_eq_word hopc hrsv) (low_half_eq_masked w1)
  | setDecSpeed =>
    exact congrArg₂ Encoded.command (formatN_eq_word hopc hrsv) ((word_of_fields (fields_join rfl rfl)).trans hall)
  | setRelay => exact congrArg₂ Encoded.command (formatRL_eq_word hopc hrsv) hnone
  | linkClose | stopDec | powerOn | powerOff | dplusOn | dplusOff | dminusOn | dminusOff =>
    exact congrArg₂ Encoded.command (formatN_eq_word hopc hrsv) hnone

/-- Settles O2: the words written back are those of the command decoded, so they decode to it by O1. -/
theorem decodedBitsAreReencoded : Obligations.DecodedBitsAreReencoded := by
  refine ⟨fun bs i h => encode_of_decodeWire h, fun w0 w1 i h => ?_⟩
  obtain ⟨o, hop, hrsv, rfl⟩ := decodeCommand_eq_instr_iff.mp h
  have henc := encode_instrOf (w1 := w1) hop hrsv
  exact ⟨o, hop, henc, henc ▸ decodeOfEncodeIsIdentity _⟩

/-! ## Ignored bits -/

/-- A command's second word has no effect but through the operands (R62). -/
theorem decodeCommand_congr {w0 w1 w1' : Word}
    (h : ∀ o, opcodeOf? (opcodeField w0) = some o → instrOf o w0 w1 = instrOf o w0 w1') :
    decode (.command w0 w1) = decode (.command w0 w1') := by
  simp only [decode, decodeCommand]
  cases ho : opcodeOf? (opcodeField w0) with
  | none => rfl
  | some o => simp only [h o ho]

/-- Settles O6: of the commands only LINK_OPEN, SET_RA_SPEED and SET_DEC_SPEED have an operand in W1. -/
theorem ignoredFieldsHaveNoEffect : Obligations.IgnoredFieldsHaveNoEffect := by
  intro w0 w1 w1'
  refine ⟨fun o ho hf => decodeCommand_congr fun o' ho' => ?_, fun ho heq => decodeCommand_congr fun o' ho' => ?_⟩
  · obtain rfl : o = o' := Option.some.inj (ho.symm.trans ho')
    cases o with
    | linkOpen | setRaSpeed | setDecSpeed => simp [formatOf] at hf
    | _ => rfl
  · obtain rfl : .setRaSpeed = o' := Option.some.inj (ho.symm.trans ho')
    exact congrArg Instr.setRaSpeed heq

/-! ## Words the dispatch step refuses -/

/-- A step is the response to its event (R75). -/
theorem step_of_nextEvent {s : State} {e : Event} {rest : List Event} (hn : nextEvent s = some (e, rest)) :
    step s = handle e { s with inputs := rest } := by
  rw [step, hn]

/-- A step that takes Internal in DISPATCH is the dispatch step (R82). -/
theorem step_dispatch {s : State} {rest : List Event} (hs : s.seq = .dispatch) (hn : nextEvent s = some (.internal, rest)) :
    step s = dispatchStep { s with inputs := rest } :=
  (step_of_nextEvent hn).trans (handleInternal_dispatch hs)

/-- Settles O4: a reserved opcode is in no row of R59. -/
theorem reservedOpcodeIsRefused : Obligations.ReservedOpcodeIsRefused := by
  intro s rest hs hn hopc
  have hnone : opcodeOf? (opcodeField s.cmdLatch) = none := opcodeOf?_eq_none_of_reserved hopc
  rw [step_dispatch hs hn]
  obtain ⟨-, hd⟩ | ⟨o, ho, -⟩ := dispatchStep_cases { s with inputs := rest }
  · exact hd
  · simp [hnone] at ho

/-- Settles O5: the lowest masked bit is the one the decoder reports. -/
theorem reservedFieldIsRefused : Obligations.ReservedFieldIsRefused := by
  intro s rest o n hs hn hopc hbit hlow
  have hopc : opcodeOf? (opcodeField s.cmdLatch) = some o := hopc
  have hrsv : reservedBit (formatOf o) s.cmdLatch = some n := (lowestSetBit_eq_some _ n).mpr ⟨hbit, hlow⟩
  calc step s
    _ = dispatchStep { s with inputs := rest } := step_dispatch hs hn
    _ = .next (raise .usage .reservedField (BitVec.ofNat 8 n) { s with inputs := rest }) := by
      simp [dispatchStep, decode, decodeCommand, hopc, hrsv]

end Sys2Proof.Machine

/-! PROOFS. The bytes of the wire frames (O31). -/

namespace Sys2Proof.Machine

open Sys2Proof.Safety Sys2Proof.Claims

/-- R71 writes the state digit as the state bit added to 0x30. -/
theorem stateDigit_eq (st : Bool) : stateDigit st = 0x30 + (BitVec.ofBool st).setWidth 8 := by
  cases st <;> rfl

/-- Settles O31: each frame is the list of bytes its table writes out. -/
theorem wireFramesSendTheBytesOfTheirTables : Obligations.WireFramesSendTheBytesOfTheirTables := by
  intro s b hs hp
  have hmay : mayTransmit s = true := (mayTransmit_iff s).mpr ⟨hs, hp⟩
  refine ⟨fun a v c hb => ?_, fun a d v c hb => ?_, fun h l k st hb => ?_⟩
  · exact transmit_of_getElem? (bs := wsrBytes a v c) hmay hb
  · exact transmit_of_getElem? (bs := wmrBytes a d v c) hmay hb
  · rw [← stateDigit_eq] at hb
    exact transmit_of_getElem? (bs := adamBytes h l k st) hmay hb

end Sys2Proof.Machine

/-! PROOFS. The reception of a response (O36, O38, O39): what the receive step does with an unerrored byte, the checks of a
whole response, and a response taken in byte by byte. -/

namespace Sys2Proof.Machine

open Sys2Proof.Safety Sys2Proof.Claims

/-! ## The receive step -/

/-- R111: a failed attempt, written out. -/
theorem attemptFail_eq (c : Cause) (d : Byte) (s : State) : attemptFail c d s = attemptEnds (causeCode c) d s := by
  have hrec : recover s = recovered s := recover_eq s
  have hlatch : (recovered s).cmdLatch = s.cmdLatch := by
    unfold recovered
    split <;> rfl
  obtain ⟨h5, h⟩ | ⟨h5, h⟩ := attemptFail_cases c d s
  · rw [h, attemptEnds, if_pos h5, hrec, opcodeOf, ← hlatch]
    rfl
  · rw [h, attemptEnds, if_neg h5, hrec]

section

variable {s : State} {b : Byte} {more : List RxEntry} {rest : List Event}

/-- R108: an unerrored byte is stored, and then looked at. -/
theorem mbReceive_of_good (hq : s.rxq = { byte := b, err := false } :: more) (hovf : s.rxqOvf = false)
    (hn : s.rxn.toNat < 8) : mbReceive s = byteStored b (stored b more s) := by
  simp [mbReceive, stored, hq, hovf, hn]

/-- R77: an entry in the queue enables the receive step. -/
theorem nextEvent_receive {e : RxEntry} (hin : s.inputs = .internal :: rest) (hs : s.seq = .mbRx)
    (hq : s.rxq = e :: more) : nextEvent s = some (.internal, rest) :=
  nextEvent_head hin (by simp [enabled, internalEnabled, hs, hq])

/-- The step that takes an unerrored byte from the queue (R108). -/
theorem step_receive (hnext : nextEvent s = some (.internal, rest)) (hs : s.seq = .mbRx)
    (hq : s.rxq = { byte := b, err := false } :: more) (hovf : s.rxqOvf = false) (hn : s.rxn < 8) :
    step s = byteStored b (stored b more { s with inputs := rest }) := by
  calc step s
    _ = handleInternal { s with inputs := rest } := step_of_nextEvent hnext
    _ = mbReceive { s with inputs := rest } := handleInternal_mbRx hs
    _ = _ := mbReceive_of_good hq hovf hn

theorem byteStored_of_rxn_ne (h : s.rxn ≠ 2) : byteStored b s = checkWhole s := if_neg h

/-- R108: a response that is not whole is not checked. -/
theorem checkWhole_of_open (h : ¬ (s.rxl ≠ 0 ∧ s.rxn = s.rxl)) : checkWhole s = .next s := if_neg h

/-- R70: byte 1 tells the length of the response. -/
theorem byteStored_header (h : s.rxn = 2) :
    byteStored b s = .next
      (if b = s.fc then { s with rxl := 8 }
       else if b = s.fc ||| 0x80 then { s with rxl := 5 }
       else attemptEnds 0x13 b s) := by
  have hopen (l : BitVec 4) (hl : l ≠ 2) : checkWhole { s with rxl := l } = .next { s with rxl := l } :=
    checkWhole_of_open fun hw => hl (hw.2.symm.trans h)
  simp only [byteStored, if_pos h, hopen 8 (by decide), hopen 5 (by decide), attemptFail_eq, exceptionFc,
    apply_ite Host.Outcome.next]
  rfl

/-! ## The checks of a whole response -/

/-- R108: the byte that completes a response of `L` bytes has it checked. -/
theorem byteStored_last {L : Nat} (hL : L = 5 ∨ L = 8) (hn : s.rxn.toNat = L) (hl : s.rxl.toNat = L) :
    byteStored b s = .next (validateWhole L hL s) := by
  subst hl
  rw [byteStored_of_rxn_ne (by bv_omega), checkWhole, if_pos ⟨by bv_omega, BitVec.eq_of_toNat_eq hn⟩, validate,
    dif_pos hL]

/-- R109 on an exception response. -/
theorem validateWhole_five :
    validateWhole 5 (.inl rfl) s =
      (if s.rxb[3] ≠ (crc16 s.cfg.crcPreset (s.rxb.toList.take 3)).extractLsb' 0 8 ∨
          s.rxb[4] ≠ (crc16 s.cfg.crcPreset (s.rxb.toList.take 3)).extractLsb' 8 8 then attemptEnds 0x14 0 s
       else if s.rxb[0] ≠ s.activeSlave then attemptEnds 0x15 s.rxb[0] s
       else attemptEnds 0x16 s.rxb[2] s) := by
  simp only [validateWhole, attemptFail_eq]
  rfl

/-- R109 on an exception response with the right CRC and address. -/
theorem validateWhole_exception {code f : Byte}
    (h : s.rxb.toList.take 5 = [s.activeSlave, f, code] ++ crcBytes (crc16 s.cfg.crcPreset [s.activeSlave, f, code])) :
    validateWhole 5 (.inl rfl) s = attemptEnds 0x16 code s := by
  have hget (i : Nat) (hi : i < 5) : s.rxb[i] = (s.rxb.toList.take 5)[i]'(by simpa using by omega) := by simp
  have hbody : s.rxb.toList.take 3 = [s.activeSlave, f, code] := by
    simpa [List.take_take] using congrArg (List.take 3) h
  rw [validateWhole_five, hbody, hget 0 (by decide), hget 2 (by decide), hget 3 (by decide), hget 4 (by decide)]
  simp [h, crcBytes, lo8, hi8]

/-- R67, R68, R109: the echo of the request's first six bytes with its CRC passes every check. -/
theorem validateWhole_echo (hslave : s.frame[0] = s.activeSlave)
    (h : s.rxb.toList = s.frame.toList.take 6 ++ crcBytes (crc16 s.cfg.crcPreset (s.frame.toList.take 6))) :
    validateWhole 8 (.inr rfl) s = succeeded s := by
  have hget (i : Nat) (hi : i < 8) : s.rxb[i] = s.rxb.toList[i]'(by simpa using hi) := by simp
  have hbody : s.rxb.toList.take 6 = s.frame.toList.take 6 := by
    rw [h, List.take_left' (by simp)]
  have hecho : (s.rxb.toList.drop 2).take 4 = (s.frame.toList.drop 2).take 4 := by
    simpa [List.drop_take] using congrArg (List.drop 2) hbody
  have hdiff := (firstDiff_eq_none 2 _ _ (congrArg List.length hecho)).mpr hecho
  have hlo : s.rxb[6] = lo8 (crc16 s.cfg.crcPreset (s.frame.toList.take 6)) := by
    simp [hget, h, crcBytes]
  have hhi : s.rxb[7] = hi8 (crc16 s.cfg.crcPreset (s.frame.toList.take 6)) := by
    simp [hget, h, crcBytes]
  have haddr : s.rxb[0] = s.activeSlave := by
    simp [hget, h, ← hslave]
  have hdone : completeOk s = succeeded s := rfl
  simp [validateWhole, responseBytes, hbody, hlo, hhi, haddr, hdiff, hdone]

end

/-- Settles O36: byte 1 advances `RXN` to 2, where the length is told; any other byte leaves it elsewhere. -/
theorem functionByteDecidesTheLength : Obligations.FunctionByteDecidesTheLength := by
  refine ⟨fun s b more rest hnext hs hq hovf hn h1 hopen => ?_, fun s b more rest hnext hs hq hovf h1 => ⟨_, rfl, ?_⟩⟩
  · have hne : (stored b more { s with inputs := rest }).rxn ≠ 2 := fun h => h1 (by simp only [stored] at h; bv_omega)
    rw [step_receive hnext hs hq hovf hn, byteStored_of_rxn_ne hne, checkWhole_of_open hopen]
  · have hst : stored b more { s with inputs := rest } =
        { s with inputs := rest, rxq := more, cnt := 0, rxn := 2, rxb := s.rxb.set 1 b } := by
      simp [stored, h1]
    rw [step_receive hnext hs hq hovf (by simp [h1]), hst, byteStored_header rfl]

/-! ## A response, byte by byte -/

/-- The first `n` bytes of the response `bs` have been taken in, its length is `l`, and after it `q` is in the queue. -/
def received (bs : List Byte) (n : Nat) (l : BitVec 4) (q : List RxEntry) (rest : List Event) (s : State) : State :=
  { s with
    inputs := rest
    rxq := good (bs.drop n) ++ q
    rxb := overwrite (bs.take n) s.rxb
    rxn := BitVec.ofNat 4 n
    rxl := l
    cnt := 0 }

theorem overwrite_nil {n : Nat} (buf : Vector Byte n) : overwrite [] buf = buf :=
  Vector.toList_inj.mp (by simp [overwrite_toList])

/-- Writing the byte after those written. -/
theorem overwrite_set {n : Nat} (bs : List Byte) (b : Byte) (buf : Vector Byte n) (h : bs.length < n) :
    (overwrite bs buf).set bs.length b = overwrite (bs ++ [b]) buf := by
  apply Vector.toList_inj.mp
  have hlen : (bs ++ [b]).length ≤ n := by simpa using h
  rw [Vector.toList_set, overwrite_toList, overwrite_toList, List.take_of_length_le h.le, List.take_of_length_le hlen,
    List.set_append_right _ _ le_rfl, Nat.sub_self, List.drop_eq_getElem_cons (by simpa using h), List.set_cons_zero]
  simp

theorem good_drop {bs : List Byte} {n : Nat} (h : n < bs.length) :
    good (bs.drop n) = { byte := bs[n], err := false } :: good (bs.drop (n + 1)) := by
  rw [List.drop_eq_getElem_cons h]
  rfl

section

variable {s : State} {bs : List Byte} {n : Nat} {l : BitVec 4} {q : List RxEntry} {rest : List Event}

/-- The receive step stores byte `n` after those before it. -/
theorem stored_received (hn : n < bs.length) (h8 : bs.length ≤ 8) :
    stored bs[n] (good (bs.drop (n + 1)) ++ q) { received bs n l q rest s with inputs := rest } =
      received bs (n + 1) l q rest s := by
  have hidx : (BitVec.ofNat 4 n).toNat = n := Nat.mod_eq_of_lt (by omega)
  have hlen : (bs.take n).length = n := by simpa using hn.le
  have hset := overwrite_set (bs.take n) bs[n] s.rxb (by omega)
  simp only [hlen, List.take_append_getElem] at hset
  simp [stored, received, hidx, hset, BitVec.ofNat_add, show n < 8 by omega]

/-- Before the first byte the count in `CNT` and the bytes in `RXB` are of no account. -/
theorem stored_first (hn : s.rxn = 0) (hpos : 0 < bs.length) :
    stored bs[0] (good (bs.drop 1) ++ q) { s with inputs := rest } = received bs 1 s.rxl q rest s := by
  have hset : s.rxb.set 0 bs[0] = overwrite [bs[0]] s.rxb := by
    simpa [overwrite_nil] using overwrite_set [] bs[0] s.rxb (by simp)
  simp [stored, received, hn, hset, List.take_one, List.head?_eq_getElem?, hpos]

variable (hs : s.seq = .mbRx) (hovf : s.rxqOvf = false) (h8 : bs.length ≤ 8)
include hs hovf h8

/-- The receive step takes in byte `n` of the response. -/
theorem step_received (hn : n < bs.length) :
    step (received bs n l q (.internal :: rest) s) = byteStored bs[n] (received bs (n + 1) l q rest s) := by
  have hq : (received bs n l q (.internal :: rest) s).rxq =
      { byte := bs[n], err := false } :: (good (bs.drop (n + 1)) ++ q) := by
    simp [received, good_drop hn]
  have hnext : nextEvent (received bs n l q (.internal :: rest) s) = some (.internal, rest) :=
    nextEvent_receive rfl hs hq
  have hrxn : (received bs n l q (.internal :: rest) s).rxn < 8 := by
    simp only [received]
    bv_omega
  rw [step_receive hnext hs hq hovf hrxn, ← stored_received hn h8]
  rfl

/-- R70, R108: after two receive steps the function byte has told the length. -/
theorem run_header (h2 : 2 ≤ bs.length) (hn : s.rxn = 0) (hl : s.rxl = 0) (hq : s.rxq = good bs ++ q)
    (hin : s.inputs = .internal :: .internal :: rest) :
    run 2 s = .next
      (if bs[1] = s.fc then received bs 2 8 q rest s
       else if bs[1] = s.fc ||| 0x80 then received bs 2 5 q rest s
       else attemptEnds 0x13 bs[1] (received bs 2 0 q rest s)) := by
  have hq0 : s.rxq = { byte := bs[0], err := false } :: (good (bs.drop 1) ++ q) := by
    rw [hq, ← List.cons_append, ← good_drop (by omega), List.drop_zero]
  have hnext : nextEvent s = some (.internal, .internal :: rest) :=
    nextEvent_receive hin hs hq0
  have hfirst : step s = .next (received bs 1 0 q (.internal :: rest) s) := by
    rw [step_receive hnext hs hq0 hovf (by simp [hn]), stored_first hn (by omega), hl,
      byteStored_of_rxn_ne (by simp [received]), checkWhole_of_open (by simp [received])]
  have hsecond := (step_received hs hovf h8 (n := 1) (l := 0) (q := q) (rest := rest) (by omega)).trans
    (byteStored_header rfl)
  rw [run_succ_of_step hfirst, run_succ_of_step hsecond]
  rfl

/-- Between the header and the last byte the bytes are only stored. -/
theorem run_received {k : Nat} (hk : 2 + k < bs.length) (hl : l.toNat = bs.length) :
    run k (received bs 2 l q (List.replicate k .internal ++ rest) s) = .next (received bs (2 + k) l q rest s) := by
  induction k generalizing rest with
  | zero => rfl
  | succ k ih =>
    have hshift : List.replicate (k + 1) Event.internal ++ rest = List.replicate k .internal ++ .internal :: rest := by
      simp [List.replicate_succ']
    have hmore : (received bs (2 + k + 1) l q rest s).rxn ≠ 2 ∧ (received bs (2 + k + 1) l q rest s).rxn ≠ l := by
      simp only [received]
      constructor <;> bv_omega
    have hstep : step (received bs (2 + k) l q (.internal :: rest) s) = .next (received bs (2 + k + 1) l q rest s) := by
      rw [step_received hs hovf h8 (by omega), byteStored_of_rxn_ne hmore.1,
        checkWhole_of_open fun hw => hmore.2 hw.2]
    rw [hshift, run_add (ih (by omega)), run_succ_of_step hstep]
    rfl

/-- A response whose function byte has told its length is taken in and checked (R108, R109). -/
theorem run_response {L : Nat} (hL : L = 5 ∨ L = 8) (hlen : bs.length = L) (hl : l.toNat = L)
    (hhead : run 2 s = .next (received bs 2 l q (List.replicate (L - 2) .internal ++ rest) s)) :
    run L s = .next (validateWhole L hL (received bs L l q rest s)) := by
  obtain ⟨k, hk⟩ : ∃ k, L = 2 + k + 1 := ⟨L - 3, by omega⟩
  have hrest : List.replicate (L - 2) Event.internal ++ rest = List.replicate k .internal ++ .internal :: rest := by
    simp [show L - 2 = k + 1 by omega, List.replicate_succ']
  have hlast : step (received bs (2 + k) l q (.internal :: rest) s) =
      .next (validateWhole L hL (received bs L l q rest s)) := by
    rw [step_received hs hovf h8 (by omega), ← hk]
    exact byteStored_last hL (Nat.mod_eq_of_lt (by omega)) hl
  calc run L s
    _ = run (2 + (k + 1)) s := congrArg (run · s) hk
    _ = run (k + 1) (received bs 2 l q (List.replicate k .internal ++ .internal :: rest) s) := run_add (hrest ▸ hhead)
    _ = run 1 (received bs (2 + k) l q (.internal :: rest) s) :=
      run_add (run_received hs hovf h8 (by omega) (hl.trans hlen.symm))
    _ = _ := run_succ_of_step hlast

end

/-- A whole response stands in the first bytes of `RXB`, and nothing of it is left in the queue. -/
theorem received_whole {bs : List Byte} {L : Nat} (hlen : bs.length = L) (l : BitVec 4) (q : List RxEntry)
    (rest : List Event) (s : State) :
    received bs L l q rest s =
      { s with inputs := rest, rxq := q, rxb := overwrite bs s.rxb, rxn := BitVec.ofNat 4 L, rxl := l, cnt := 0 } := by
  subst hlen
  rw [received, List.take_length, List.drop_length]
  rfl

/-- Settles O38: the function byte is that of the request, so eight bytes are taken in, and they pass every check. -/
theorem expectedResponseSucceeds : Obligations.ExpectedResponseSucceeds := by
  intro s more rest hs hn hl hovf hslave hfc hq hin
  generalize hbs : s.frame.toList.take 6 ++ crcBytes (crc16 s.cfg.crcPreset (s.frame.toList.take 6)) = bs at hq ⊢
  have hlen : bs.length = 8 := by simp [← hbs, crcBytes]
  have hfunction : bs[1] = s.fc := by simp [← hbs, ← hfc]
  have hrxb : (overwrite bs s.rxb).toList = bs := by
    rw [overwrite_toList, List.take_of_length_le hlen.le, List.drop_of_length_le (by simp [hlen]), List.append_nil]
  have hhead := run_header (rest := List.replicate 6 Event.internal ++ rest) hs hovf hlen.le (by omega) hn hl hq hin
  rw [if_pos hfunction] at hhead
  have hrun := run_response hs hovf hlen.le (.inr rfl) hlen rfl hhead
  rw [received_whole hlen, validateWhole_echo (by exact hslave) (by exact hrxb.trans hbs.symm)] at hrun
  exact ⟨_, hrun, hrxb, rfl⟩

/-- Settles O39: the fifth byte completes the response, and the checks are those of an exception response. -/
theorem exceptionResponseFailsTheAttempt : Obligations.ExceptionResponseFailsTheAttempt := by
  refine ⟨fun s b more rest hnext hs hq hovf hn hl => ⟨_, rfl, ?_⟩,
    fun s code more rest hs hn hl hovf hfc hq hin => ?_⟩
  · have hst : stored b more { s with inputs := rest } =
        { s with inputs := rest, rxq := more, cnt := 0, rxn := 5, rxb := s.rxb.set 4 b } := by
      simp [stored, hn]
    have hbody : (s.rxb.set 4 b).toList.take 3 = s.rxb.toList.take 3 := by
      rw [Vector.toList_set, List.take_set_of_le (by decide)]
    rw [step_receive hnext hs hq hovf (by simp [hn]), hst, byteStored_last (.inl rfl) rfl (by simp [hl]),
      validateWhole_five]
    simp [hbody]
  · generalize hbs : [s.activeSlave, s.fc ||| 0x80, code] ++
      crcBytes (crc16 s.cfg.crcPreset [s.activeSlave, s.fc ||| 0x80, code]) = bs at hq ⊢
    have hlen : bs.length = 5 := by simp [← hbs, crcBytes]
    have hfunction : bs[1] = s.fc ||| 0x80 := by simp [← hbs]
    have hforeign : s.fc ||| 0x80 ≠ s.fc := by
      intro h
      have hbit := congrArg (BitVec.getLsbD · 7) h
      rw [BitVec.getLsbD_or, hfc] at hbit
      exact absurd hbit (by decide)
    have hrxb : (overwrite bs s.rxb).toList.take 5 = bs := hlen ▸ overwrite_take bs s.rxb (by omega)
    have hhead := run_header (rest := List.replicate 3 Event.internal ++ rest) hs hovf (by omega) (by omega) hn hl hq hin
    rw [hfunction, if_neg hforeign, if_pos rfl] at hhead
    have hrun := run_response hs hovf (by omega) (.inl rfl) hlen rfl hhead
    rw [received_whole hlen, validateWhole_exception (hrxb.trans hbs.symm)] at hrun
    exact ⟨_, hrxb, hrun⟩

end Sys2Proof.Machine

/-! PROOFS. Which event a step takes (O9, O10, O7, O8), and what single events do to the block (O11, O13, O14, O16). -/

namespace Sys2Proof.Machine

open Sys2Proof.Safety Sys2Proof.Claims

/-! ## Which event comes next -/

section

variable {s : State}

/-- The first enabled event of the schedule is taken, and those before it are held (R73, log 1). -/
theorem nextEvent_of_first_enabled {pre post : List Event} {e : Event} (hin : s.inputs = pre ++ e :: post)
    (hpre : ∀ x ∈ pre, enabled x s = false) (he : enabled e s = true) : nextEvent s = some (e, pre ++ post) := by
  have htake : takeEnabled s s.inputs = some (e, pre ++ post) :=
    takeEnabled_eq_some.mpr ⟨pre, post, hin, rfl, he, hpre⟩
  rw [nextEvent, htake]

/-- Where no event of the schedule is enabled, Internal is taken if it is (R76, log 2). -/
theorem nextEvent_of_none_enabled (h : ∀ x ∈ s.inputs, enabled x s = false) :
    nextEvent s = if internalEnabled s then some (.internal, s.inputs) else none := by
  rw [nextEvent, takeEnabled_eq_none.mpr h]

/-- The block waits where it takes no event (R76, log 2). -/
theorem step_of_nextEvent_none (h : nextEvent s = none) : step s = .next s := by
  rw [step, h]

/-- The schedule after an event is taken holds the same events of every kind the taken one is not of. -/
theorem filter_rest_of_nextEvent {p : Event → Bool} {e : Event} {rest : List Event} (hn : nextEvent s = some (e, rest))
    (he : p e = false) : rest.filter p = s.inputs.filter p := by
  obtain ⟨-, ⟨pre, post, hin, rfl, -⟩ | ⟨-, rfl, -⟩⟩ := nextEvent_eq_some hn
  · simp [hin, he]
  · rfl

end

/-- Settles O9: the two ways the next event is found. -/
theorem disabledEventsAreHeld : Obligations.DisabledEventsAreHeld := by
  refine ⟨fun s pre post e hin hpre he => step_of_nextEvent (nextEvent_of_first_enabled hin hpre he), fun s hnone => ?_⟩
  have hnext := nextEvent_of_none_enabled hnone
  split
  · rename_i hi
    exact step_of_nextEvent (hnext.trans (if_pos hi))
  · rename_i hi
    exact step_of_nextEvent_none (hnext.trans (if_neg hi))

/-- Settles O10: the two transmitting states share one condition (R105, R122). -/
theorem internalEnabledExactlyWhere : Obligations.InternalEnabledExactlyWhere := by
  intro s
  have hrx : (s.seq == .mbRx && !s.rxq.isEmpty) = true ↔ s.seq = .mbRx ∧ s.rxq ≠ [] := by simp
  calc enabled .internal s = true
    _ ↔ (s.seq = .dispatch ∨ mayTransmit s = true) ∨ (s.seq == .mbRx && !s.rxq.isEmpty) = true := by
      simp only [enabled, internalEnabled, Bool.or_eq_true, beq_iff_eq]
    _ ↔ _ := by
      rw [mayTransmit_iff, hrx]
      tauto

/-! ## The instruction of a step -/

/-- Settles O7, port by port. -/
theorem stepRunsTheDecodedInstruction : Obligations.StepRunsTheDecodedInstruction := by
  intro s e rest x i hn hf hd
  rw [step_of_nextEvent hn]
  cases e with
  | hostRead idx =>
    cases hf
    cases hd
    rfl
  | internal =>
    simp only [fetch] at hf
    split at hf
    · rename_i hs
      cases hf
      calc handleInternal { s with inputs := rest }
        _ = dispatchStep { s with inputs := rest } := handleInternal_dispatch hs
        _ = exec i { s with inputs := rest } := by simp only [dispatchStep, hd]
    · split at hf
      · rename_i hmay
        cases hf
        obtain ⟨hs, -⟩ := (mayTransmit_iff s).mp hmay
        have hd' : decode (.wire (frameBytes { s with inputs := rest })) = .instr i := hd
        calc handleInternal { s with inputs := rest }
          _ = transmitStep { s with inputs := rest } := hs.elim (handleInternal_mbTx ·) (handleInternal_rlTx ·)
          _ = exec i { s with inputs := rest } := by simp only [transmitStep, hd', Decoded.toOption]
      · cases hf
  | _ => cases hf

/-- R65, R66, R71: a frame that decodes has eight or thirteen bytes. -/
theorem length_of_decodeWire {bs : List Byte} {i : Instr} (h : decodeWire bs = .instr i) :
    bs.length = 8 ∨ bs.length = 13 := by
  unfold decodeWire at h
  split at h
  · exact .inl rfl
  · exact .inr rfl
  · cases h

/-- A placed frame is in a transmitting state, with no byte outstanding. -/
theorem mayTransmit_placeFrame (bs : List Byte) (s : State) : mayTransmit (placeFrame bs s) = true := by
  refine (mayTransmit_iff _).mpr ⟨?_, rfl⟩
  unfold placeFrame
  split
  · exact .inr rfl
  · exact .inl rfl

theorem frameBytes_placeFrame {bs : List Byte} {i : Instr} (h : decodeWire bs = .instr i) (s : State) :
    frameBytes (placeFrame bs s) = bs := by
  have hlen := length_of_decodeWire h
  exact frameBytes_of_overwrite (s := placeFrame bs s) rfl (Nat.mod_eq_of_lt (by omega)) (by omega)

/-- What is placed is what the next event fetches (log 5). -/
theorem fetch_place {x : Encoded} {i : Instr} (h : decode x = .instr i) (s : State) :
    ∃ e, nextEvent (place x s) = some (e, s.inputs) ∧ fetch e (place x s) = some x := by
  cases x with
  | command w0 w1 => exact ⟨.internal, nextEvent_head rfl rfl, rfl⟩
  | readPort idx => exact ⟨.hostRead idx, nextEvent_head rfl rfl, rfl⟩
  | wire bs =>
    have hmay : mayTransmit (place (.wire bs) s) = true := mayTransmit_placeFrame bs s
    have hbytes : frameBytes (place (.wire bs) s) = bs := frameBytes_placeFrame h s
    have hs : (place (.wire bs) s).seq ≠ .dispatch := by
      obtain ⟨hs | hs, -⟩ := (mayTransmit_iff _).mp hmay <;> simp [hs]
    refine ⟨.internal, nextEvent_head rfl (by simp [enabled, internalEnabled, hmay]), ?_⟩
    simp only [fetch, if_neg hs, if_pos hmay, hbytes]

/-- Settles O8: what is placed is fetched, and decodes to the instruction by O1. -/
theorem placedInstructionRunsNext : Obligations.PlacedInstructionRunsNext := by
  intro i s
  have hdec := decodeOfEncodeIsIdentity i
  obtain ⟨e, hnext, hfetch⟩ := fetch_place hdec s
  exact stepRunsTheDecodedInstruction _ e s.inputs _ i hnext hfetch hdec

/-! ## Single events -/

/-- Settles O11: the command at the head of the schedule is enabled in IDLE, and acceptance writes what R81 names. -/
theorem idleBlockAcceptsCommand : Obligations.IdleBlockAcceptsCommand := by
  intro s w0 w1 rest hs hin
  have hen : enabled (.hostCmd w0 w1) s = true := by simp [enabled, hs]
  exact step_head hin hen

/-- Settles O13, in the two cases of R80. -/
theorem receivedByteIsQueuedOrLost : Obligations.ReceivedByteIsQueuedOrLost := by
  intro s b err rest hin
  have hstep : step s = .next (receiveByte b err { s with inputs := rest }) := step_head hin rfl
  rw [hstep]
  obtain ⟨hroom, h⟩ | ⟨hfull, h⟩ := receiveByte_cases b err { s with inputs := rest }
  · rw [h, if_pos hroom]
  · rw [h, if_neg hfull.not_gt]

/-- Settles O14: the states that time nothing, and MB_RX with a byte waiting. -/
theorem untimedTickChangesNothing : Obligations.UntimedTickChangesNothing := by
  intro s rest hin hcase
  have hstep : step s = .next (handleTick { s with inputs := rest }) := step_head hin rfl
  rw [hstep]
  obtain huntimed | ⟨hs, hq⟩ := hcase
  · rw [handleTick_untimed (by exact huntimed)]
  · rw [handleTick_mbRx (by exact hs)]
    obtain ⟨-, h⟩ | ⟨hnil, -⟩ | ⟨hnil, -⟩ := mbRxTick_cases { s with inputs := rest }
    · rw [h]
    · exact absurd hnil hq
    · exact absurd hnil hq

/-- Settles O16: a read is enabled in every state, and the indices above 10 are in no row of R33. -/
theorem readHasNoSideEffect : Obligations.ReadHasNoSideEffect := by
  intro s idx
  exact ⟨rfl, fun rest hin => ⟨step_head hin rfl, readReg_above_map s⟩⟩

end Sys2Proof.Machine

/-! PROOFS. A command from its dispatch to its Done: every response but an acceptance and a Reset keeps the schedule and the
latches, and emits one Done exactly where it ends a command. Settles O12 and O57. -/

namespace Sys2Proof.Machine

open Sys2Proof.Safety Sys2Proof.Claims

/-! ## Going on with a command -/

/-- What the schedule and the latches hold stays, and `n` Done events are emitted (R54, R84). -/
structure SameCommand (s t : State) (n : Nat) : Prop where
  inputs : t.inputs = s.inputs
  cmdLatch : t.cmdLatch = s.cmdLatch
  argLatch : t.argLatch = s.argLatch
  dones : t.outputs.countP isDone = s.outputs.countP isDone + n

/-- A response that goes on with the command or ends it: Done is emitted exactly where it ends, and once (R84). -/
def CommandStep (s t : State) : Prop := SameCommand s t (if s.seq ≠ .idle ∧ t.seq = .idle then 1 else 0)

section

variable {s t u : State}

/-- A response that leaves the sequencer's state, or goes to another busy one, and emits no Done. -/
theorem CommandStep.of_goesOn (h : SameCommand s t 0) (hseq : t.seq = s.seq ∨ t.seq ≠ .idle) : CommandStep s t := by
  have hnot : ¬ (s.seq ≠ .idle ∧ t.seq = .idle) := by
    rintro ⟨hs, ht⟩
    obtain hseq | hseq := hseq
    · exact hs (hseq ▸ ht)
    · exact hseq ht
  rwa [CommandStep, if_neg hnot]

/-- A response that changes nothing but fields the command cycle does not look at. -/
theorem CommandStep.of_eq (hin : t.inputs = s.inputs) (hcmd : t.cmdLatch = s.cmdLatch) (harg : t.argLatch = s.argLatch)
    (hout : t.outputs = s.outputs) (hseq : t.seq = s.seq ∨ t.seq ≠ .idle) : CommandStep s t :=
  .of_goesOn ⟨hin, hcmd, harg, by rw [hout, Nat.add_zero]⟩ hseq

/-- A response of a busy block that ends in `IDLE` with one Done. -/
theorem CommandStep.of_ends {ok : Bool} (hu : SameCommand s u 0) (hs : s.seq ≠ .idle) (hin : t.inputs = u.inputs)
    (hcmd : t.cmdLatch = u.cmdLatch) (harg : t.argLatch = u.argLatch) (hout : t.outputs = u.outputs ++ [.done ok])
    (ht : t.seq = .idle) : CommandStep s t := by
  rw [CommandStep, if_pos ⟨hs, ht⟩]
  exact ⟨hin.trans hu.inputs, hcmd.trans hu.cmdLatch, harg.trans hu.argLatch, by simp [hout, hu.dones, isDone]⟩

theorem completeOk_commandStep (hu : SameCommand s u 0) (hs : s.seq ≠ .idle) : CommandStep s (completeOk u) :=
  .of_ends hu hs rfl rfl rfl rfl rfl

theorem raise_commandStep {cls : ErrClass} {c : Cause} {d : Byte} (hu : SameCommand s u 0) (hs : s.seq ≠ .idle) :
    CommandStep s (raise cls c d u) :=
  .of_ends hu hs rfl rfl rfl rfl rfl

/-- The recovery of R111 emits no Done. -/
theorem recover_sameCommand (hu : SameCommand s u 0) : SameCommand s (recover u) 0 := by
  rw [recover_eq]
  split
  · exact ⟨hu.inputs, hu.cmdLatch, hu.argLatch, by simp [hu.dones, isDone]⟩
  · exact hu

/-- R111: a failed attempt ends the command, or goes on with its backoff. -/
theorem attemptFail_commandStep {c : Cause} {d : Byte} (hu : SameCommand s u 0) (hs : s.seq ≠ .idle) :
    CommandStep s (attemptFail c d u) := by
  obtain ⟨hin, hcmd, harg, hdone⟩ := recover_sameCommand hu
  obtain ⟨-, ht⟩ | ⟨-, ht⟩ := attemptFail_cases c d u
  · exact ht ▸ raise_commandStep ⟨hin, hcmd, harg, hdone⟩ hs
  · exact ht ▸ .of_goesOn ⟨hin, hcmd, harg, hdone⟩ (.inr (by simp))

/-- R104: an attempt starts with its Trace at most. -/
theorem startAttempt_commandStep (hu : SameCommand s u 0) : CommandStep s (startAttempt u) := by
  rw [startAttempt_eq]
  refine .of_goesOn ⟨hu.inputs, hu.cmdLatch, hu.argLatch, ?_⟩ (.inr (by simp))
  split <;> simp [hu.dones, isDone]

/-! ## Every response to an event -/

theorem receiveByte_commandStep (b : Byte) (err : Bool) (s : State) : CommandStep s (receiveByte b err s) := by
  obtain ⟨-, h⟩ | ⟨-, h⟩ := receiveByte_cases b err s
  · exact h ▸ .of_eq rfl rfl rfl rfl (.inl rfl)
  · exact h ▸ .of_eq rfl rfl rfl rfl (.inl rfl)

theorem handleTick_commandStep (s : State) : CommandStep s (handleTick s) := by
  cases hs : s.seq with
  | mbRx =>
    rw [handleTick_mbRx hs]
    obtain ⟨-, h⟩ | ⟨-, -, h⟩ | ⟨-, -, h⟩ := mbRxTick_cases s
    · rw [h]
      exact .of_eq rfl rfl rfl rfl (.inl rfl)
    · exact h ▸ attemptFail_commandStep ⟨rfl, rfl, rfl, rfl⟩ (by simp [hs])
    · exact h ▸ .of_eq rfl rfl rfl rfl (.inl rfl)
  | mbBackoff =>
    rw [handleTick_mbBackoff hs]
    obtain ⟨-, h⟩ | ⟨-, h⟩ := backoffTick_cases s
    · exact h ▸ startAttempt_commandStep ⟨rfl, rfl, rfl, rfl⟩
    · exact h ▸ .of_eq rfl rfl rfl rfl (.inl rfl)
  | rlSettle =>
    rw [handleTick_rlSettle hs]
    obtain ⟨-, h⟩ | ⟨-, h⟩ := settleTick_cases s
    · exact h ▸ completeOk_commandStep ⟨rfl, rfl, rfl, by simp [isDone]⟩ (by simp [hs])
    · exact h ▸ .of_eq rfl rfl rfl rfl (.inl rfl)
  | _ =>
    rw [handleTick_untimed (by simp [hs])]
    exact .of_eq rfl rfl rfl rfl (.inl rfl)

theorem handleTxAck_commandStep (s : State) : CommandStep s (handleTxAck s) := by
  cases hs : s.seq with
  | mbTx =>
    rw [handleTxAck_mbTx hs]
    obtain ⟨-, h⟩ | ⟨-, h⟩ := mbTxAck_cases s
    · exact h ▸ .of_eq rfl rfl rfl rfl (.inr (by simp))
    · exact h ▸ .of_eq rfl rfl rfl rfl (.inl rfl)
  | rlTx =>
    rw [handleTxAck_rlTx hs]
    obtain ⟨-, h⟩ | ⟨-, h⟩ := rlTxAck_cases s
    · exact h ▸ .of_eq rfl rfl rfl rfl (.inr (by simp))
    · exact h ▸ .of_eq rfl rfl rfl rfl (.inl rfl)
  | _ =>
    rw [handleTxAck_untransmitting (by simp [hs])]
    exact .of_eq rfl rfl rfl rfl (.inl rfl)

theorem handleTxFail_commandStep (s : State) : CommandStep s (handleTxFail s) := by
  cases hs : s.seq with
  | mbTx =>
    rw [handleTxFail_mbTx hs]
    exact attemptFail_commandStep ⟨rfl, rfl, rfl, rfl⟩ (by simp [hs])
  | rlTx =>
    rw [handleTxFail_rlTx hs]
    exact raise_commandStep ⟨rfl, rfl, rfl, rfl⟩ (by simp [hs])
  | _ =>
    rw [handleTxFail_untransmitting (by simp [hs])]
    exact .of_eq rfl rfl rfl rfl (.inl rfl)

theorem mbReceive_commandStep (hs : s.seq = .mbRx) (h : mbReceive s = .next t) : CommandStep s t := by
  have hbusy : s.seq ≠ .idle := by simp [hs]
  obtain rfl | ⟨rest, rxb, n, l, -, ⟨c, d, -, rfl⟩ | rfl | ⟨-, rfl⟩⟩ := mbReceive_outcome h
  · exact .of_eq rfl rfl rfl rfl (.inl rfl)
  · exact attemptFail_commandStep ⟨rfl, rfl, rfl, rfl⟩ hbusy
  · exact completeOk_commandStep ⟨rfl, rfl, rfl, rfl⟩ hbusy
  · exact .of_eq rfl rfl rfl rfl (.inl rfl)

/-- R82, R83: a command that is performed completes at once, or leaves the block busy. -/
theorem Performs.commandStep {i : Instr} (h : Performs s i t) (hs : s.seq ≠ .idle) : CommandStep s t := by
  cases h with
  | linkOpen => exact .of_goesOn ⟨rfl, rfl, rfl, by simp [isDone]⟩ (.inr (by simp))
  | linkClose => exact completeOk_commandStep ⟨rfl, rfl, rfl, by simp [isDone]⟩ hs
  | linkCloseAgain | setDebug | setRecovery | cfgAxisAddr | cfgRelay =>
    exact completeOk_commandStep ⟨rfl, rfl, rfl, rfl⟩ hs
  | setRaSpeed | setDecSpeed | stopDec => exact startAttempt_commandStep ⟨rfl, rfl, rfl, rfl⟩
  | relay _ ch st =>
    rw [startRelay_eq]
    refine .of_goesOn ⟨rfl, rfl, rfl, ?_⟩ (.inr (by simp))
    split <;> simp [isDone]

/-- R77. -/
theorem handleInternal_commandStep (h : handleInternal s = .next t) : CommandStep s t := by
  obtain rfl | ⟨hs, ⟨c, d, rfl⟩ | ⟨i, -, hp⟩⟩ | ⟨-, b, rfl⟩ | ⟨hs, hr⟩ := handleInternal_next h
  · exact .of_eq rfl rfl rfl rfl (.inl rfl)
  · exact raise_commandStep ⟨rfl, rfl, rfl, rfl⟩ (by simp [hs])
  · exact hp.commandStep (by simp [hs])
  · exact .of_goesOn ⟨rfl, rfl, rfl, by simp [isDone]⟩ (.inl rfl)
  · exact mbReceive_commandStep hs hr

/-- Every response but an acceptance and a Reset goes on with the command or ends it. -/
theorem handle_commandStep {e : Event} (hcmd : isHostCmd e = false) (hreset : e ≠ .reset) (he : enabled e s = true)
    (h : handle e s = .next t) : CommandStep s t := by
  cases e with
  | hostCmd w0 w1 => cases hcmd
  | hostRead idx =>
    cases h
    exact .of_eq rfl rfl rfl rfl (.inl rfl)
  | tick =>
    cases h
    exact handleTick_commandStep s
  | txAck =>
    cases h
    exact handleTxAck_commandStep s
  | txFail =>
    cases h
    exact handleTxFail_commandStep s
  | rxByte b err =>
    cases h
    exact receiveByte_commandStep b err s
  | openOk =>
    cases h
    have hs : s.seq = .openWait := by simpa [enabled] using he
    exact completeOk_commandStep ⟨rfl, rfl, rfl, by simp [isDone]⟩ (by simp [hs])
  | openFail c =>
    cases h
    have hs : s.seq = .openWait := by simpa [enabled] using he
    exact raise_commandStep ⟨rfl, rfl, rfl, rfl⟩ (by simp [hs])
  | internal => exact handleInternal_commandStep h
  | reset => exact absurd rfl hreset

/-- What a step does to the command cycle (R75): it waits, takes a command in `IDLE`, resets, or goes on. -/
theorem step_commandStep_or (h : step s = .next t) :
    t = s ∨
    (s.seq = .idle ∧ ∃ w0 w1 rest, t = acceptCommand w0 w1 { s with inputs := rest }) ∨
    ∃ e rest, nextEvent s = some (e, rest) ∧ isHostCmd e = false ∧
      (e = .reset ∧ t = resetBlock { s with inputs := rest } ∨ e ≠ .reset ∧ CommandStep { s with inputs := rest } t) := by
  obtain ⟨-, rfl⟩ | ⟨e, rest, hn, he, hh⟩ := step_cases h
  · exact .inl rfl
  cases hcmd : isHostCmd e with
  | true =>
    cases e with
    | hostCmd w0 w1 =>
      cases hh
      exact .inr (.inl ⟨by simpa [enabled] using he, w0, w1, rest, rfl⟩)
    | _ => cases hcmd
  | false =>
    refine .inr (.inr ⟨e, rest, hn, hcmd, ?_⟩)
    by_cases hreset : e = .reset
    · subst hreset
      cases hh
      exact .inl ⟨rfl, rfl⟩
    · have he' : enabled e { s with inputs := rest } = true := he
      exact .inr ⟨hreset, handle_commandStep hcmd hreset he' hh⟩

end

/-- Settles O12: a busy block takes no command, and every other event leaves the commands in the schedule. -/
theorem busyBlockHoldsCommands : Obligations.BusyBlockHoldsCommands := by
  intro s t hs h
  obtain rfl | ⟨hidle, -⟩ | ⟨e, rest, hn, hcmd, hend⟩ := step_commandStep_or h
  · exact ⟨rfl, fun _ => ⟨rfl, rfl⟩⟩
  · exact absurd hidle hs
  have hheld : rest.filter isHostCmd = s.inputs.filter isHostCmd := filter_rest_of_nextEvent hn hcmd
  obtain ⟨rfl, rfl⟩ | ⟨-, hstep⟩ := hend
  · exact ⟨hheld, fun hreset => absurd ⟨rest, hn⟩ hreset⟩
  · refine ⟨?_, fun _ => ⟨hstep.cmdLatch, hstep.argLatch⟩⟩
    rw [hstep.inputs]
    exact hheld

/-- Settles O57: a step that waits or accepts a command ends none, and every other is counted by `CommandStep`. -/
theorem doneExactlyAtTheEnd : Obligations.DoneExactlyAtTheEnd := by
  intro s t h hreset
  obtain rfl | ⟨hidle, w0, w1, rest, rfl⟩ | ⟨e, rest, hn, -, ⟨rfl, -⟩ | ⟨-, hstep⟩⟩ := step_commandStep_or h
  · simp
  · simp [hidle]
  · exact absurd ⟨rest, hn⟩ hreset
  · exact hstep.dones

end Sys2Proof.Machine

/-! PROOFS. The hang of a block whose PHY does not answer (O60). -/

namespace Sys2Proof.Machine

open Sys2Proof.Safety Sys2Proof.Claims

/-- The block waits for the PHY: for the answer to a byte, or to an open (R76). -/
def AwaitsPhy (s : State) : Prop := ((s.seq = .mbTx ∨ s.seq = .rlTx) ∧ s.txPend = true) ∨ s.seq = .openWait

/-- Nothing to come ends a wait for the PHY. -/
def PhySilent (s : State) : Prop := ∀ e ∈ s.inputs, endsPhyWait e = false

/-- The command of `s` is where it was, and the block has said nothing. -/
structure Hangs (s t : State) : Prop where
  seq : t.seq = s.seq
  txPend : t.txPend = s.txPend
  outputs : t.outputs = s.outputs
  done : t.done = s.done

section

variable {s t u : State}

theorem Hangs.trans (h : Hangs s t) (h' : Hangs t u) : Hangs s u :=
  ⟨h'.seq.trans h.seq, h'.txPend.trans h.txPend, h'.outputs.trans h.outputs, h'.done.trans h.done⟩

theorem AwaitsPhy.of_hangs (h : AwaitsPhy s) (ht : Hangs s t) : AwaitsPhy t := by
  rwa [AwaitsPhy, ht.seq, ht.txPend]

/-- A waiting block is in a state that takes no command and times nothing, and offers no byte (R77, R78). -/
theorem AwaitsPhy.not_enabled_nor_timed (h : AwaitsPhy s) :
    s.seq ≠ .idle ∧ internalEnabled s = false ∧ s.seq ≠ .mbRx ∧ s.seq ≠ .mbBackoff ∧ s.seq ≠ .rlSettle := by
  obtain ⟨hs | hs, hp⟩ | hs := h
  · simp [internalEnabled, mayTransmit, hs, hp]
  · simp [internalEnabled, mayTransmit, hs, hp]
  · simp [internalEnabled, mayTransmit, transmitting, hs]

/-- An enabled event that does not end the wait changes nothing the wait is about. -/
theorem AwaitsPhy.handle_hangs {e : Event} (h : AwaitsPhy s) (he : enabled e s = true) (hsilent : endsPhyWait e = false) :
    ∃ t, handle e s = .next t ∧ t.inputs = s.inputs ∧ Hangs s t := by
  obtain ⟨hidle, hinternal, huntimed⟩ := h.not_enabled_nor_timed
  cases e with
  | hostCmd w0 w1 => exact absurd (by simpa [enabled] using he) hidle
  | hostRead idx => exact ⟨_, rfl, rfl, rfl, rfl, rfl, rfl⟩
  | tick => exact ⟨s, congrArg _ (handleTick_untimed huntimed), rfl, rfl, rfl, rfl, rfl⟩
  | rxByte b err =>
    refine ⟨_, rfl, ?_⟩
    obtain ⟨-, ht⟩ | ⟨-, ht⟩ := receiveByte_cases b err s
    · exact ht ▸ ⟨rfl, rfl, rfl, rfl, rfl⟩
    · exact ht ▸ ⟨rfl, rfl, rfl, rfl, rfl⟩
  | internal => exact absurd he (by simp [enabled, hinternal])
  | _ => cases hsilent

/-- A step of a waiting block leaves it waiting (R76). -/
theorem AwaitsPhy.step_hangs (h : AwaitsPhy s) (hsilent : PhySilent s) :
    ∃ t, step s = .next t ∧ PhySilent t ∧ Hangs s t := by
  cases hn : nextEvent s with
  | none => exact ⟨s, step_of_nextEvent_none hn, hsilent, rfl, rfl, rfl, rfl⟩
  | some r =>
    obtain ⟨e, rest⟩ := r
    obtain ⟨he, ⟨pre, post, hin, rfl, -⟩ | ⟨rfl, -⟩⟩ := nextEvent_eq_some hn
    · have hrest : PhySilent { s with inputs := pre ++ post } := fun x hx =>
        hsilent x (hin ▸ (List.Sublist.append_left (List.sublist_cons_self e post) pre).subset hx)
      have he' : enabled e { s with inputs := pre ++ post } = true := he
      have hawaits : AwaitsPhy { s with inputs := pre ++ post } := h
      obtain ⟨t, ht, hin', hseq, hpend, hout, hdone⟩ := hawaits.handle_hangs he' (hsilent e (by simp [hin]))
      refine ⟨t, (step_of_nextEvent hn).trans ht, ?_, hseq, hpend, hout, hdone⟩
      rw [PhySilent, hin']
      exact hrest
    · obtain ⟨-, hinternal, -⟩ := h.not_enabled_nor_timed
      exact absurd he (by simp [enabled, hinternal])

/-- A waiting block waits through any number of steps. -/
theorem AwaitsPhy.run_hangs (n : Nat) (h : AwaitsPhy s) (hsilent : PhySilent s) : ∃ t, run n s = .next t ∧ Hangs s t := by
  induction n generalizing s with
  | zero => exact ⟨s, rfl, rfl, rfl, rfl, rfl⟩
  | succ n ih =>
    obtain ⟨u, hu, hsilent', hhangs⟩ := h.step_hangs hsilent
    obtain ⟨t, ht, hhangs'⟩ := ih (h.of_hangs hhangs) hsilent'
    exact ⟨t, (run_succ_of_step hu).trans ht, hhangs.trans hhangs'⟩

end

/-- Settles O60, by induction on the number of steps. -/
theorem unansweredPhyHangsTheBlock : Obligations.UnansweredPhyHangsTheBlock := by
  intro s n hwait hsilent
  obtain ⟨t, hrun, hseq, hpend, hout, hdone⟩ := AwaitsPhy.run_hangs n hwait hsilent
  exact ⟨t, hrun, hseq, hpend, hout, hdone⟩

end Sys2Proof.Machine

/-! PROOFS. Debug tracing changes only the Trace events (O59): striking the tracing out of a state commutes with every
operation of the block but SET_DEBUG and READ, and what these two write is struck out. -/

namespace Sys2Proof.Machine

open Sys2Proof.Safety Sys2Proof.Claims

/-! ## Striking the tracing out -/

/-- What a result is once the tracing is struck out of its state. -/
def hideTracing : Result → Result
  | .next t => .next (untraced t)
  | .fault f => .fault f
  | .refused r => .refused r

@[simp] theorem hideTracing_next (t : State) : hideTracing (.next t) = .next (untraced t) := rfl

theorem hideTracing_eq_next {r : Result} {u : State} (h : hideTracing r = .next u) :
    ∃ t, r = .next t ∧ untraced t = u := by
  cases r with
  | next t => exact ⟨t, rfl, Host.Outcome.next.inj h⟩
  | _ => cases h

section

variable (s : State)

@[simp] theorem untraced_cmdLatch : (untraced s).cmdLatch = s.cmdLatch := rfl
@[simp] theorem untraced_argLatch : (untraced s).argLatch = s.argLatch := rfl
@[simp] theorem untraced_seq : (untraced s).seq = s.seq := rfl
@[simp] theorem untraced_idx : (untraced s).idx = s.idx := rfl
@[simp] theorem untraced_frame : (untraced s).frame = s.frame := rfl
@[simp] theorem untraced_rxb : (untraced s).rxb = s.rxb := rfl
@[simp] theorem untraced_rxq : (untraced s).rxq = s.rxq := rfl

theorem untraced_untraced : untraced (untraced s) = untraced s := by
  simp [untraced]

theorem hideTracing_next_untraced : hideTracing (.next (untraced s)) = hideTracing (.next s) :=
  congrArg Host.Outcome.next (untraced_untraced s)

theorem hideTracing_of_commutes {r r' : Result} (h : r' = hideTracing r) : hideTracing r' = hideTracing r := by
  subst h
  cases r with
  | next t => exact hideTracing_next_untraced t
  | _ => rfl

theorem hideTracing_next_of_commutes {t u : State} (h : u = untraced t) : hideTracing (.next u) = hideTracing (.next t) :=
  hideTracing_of_commutes (congrArg Host.Outcome.next h)

/-! ## The shared operations -/

theorem emit_untraced {o : Output} (ho : isTrace o = false) : emit o (untraced s) = untraced (emit o s) := by
  simp [emit, untraced, ho]

theorem flush_untraced : flush (untraced s) = untraced (flush s) := emit_untraced { s with rxq := [], rxqOvf := false } rfl

theorem completeOk_untraced : completeOk (untraced s) = untraced (completeOk s) :=
  emit_untraced { s with seq := .idle, done := true, ok := true } rfl

theorem raise_untraced (cls : ErrClass) (c : Cause) (d : Byte) : raise cls c d (untraced s) = untraced (raise cls c d s) :=
  emit_untraced { s with
    lastErr := errWord (s.cmdLatch.extractLsb' 0 8) d (causeCode c) (classCode cls), seq := .idle, done := true
    ok := false } rfl

theorem receiveByte_untraced (b : Byte) (err : Bool) : receiveByte b err (untraced s) = untraced (receiveByte b err s) := by
  simp only [receiveByte, apply_ite untraced]
  rfl

/-- R96: the one operation that reads DEBUG_EN adds a Trace at most. -/
theorem traceFrame_untraced : traceFrame (untraced s) = untraced (traceFrame s) := by
  simp only [traceFrame_eq]
  by_cases h : s.debugEn = true
  · simp [untraced, h, isTrace]
  · simp [untraced, h]

theorem transmit_untraced (bs : List Byte) : transmit bs (untraced s) = hideTracing (transmit bs s) := by
  simp only [transmit, apply_ite hideTracing, untraced_idx]
  cases bs[s.idx.toNat]? with
  | none => rfl
  | some b =>
    simp only [emit_untraced s (o := .tx b) rfl]
    rfl

/-! ## The framer -/

theorem startAttempt_untraced : startAttempt (untraced s) = untraced (startAttempt s) :=
  congrArg (fun u : State => { u with seq := .mbTx })
    (traceFrame_untraced { s with idx := 0, rxn := 0, rxl := 0, rxqOvf := false, cnt := 0, attempts := s.att })

theorem sendRequest_untraced (body : List Byte) (len : BitVec 4) (c : Byte) :
    sendRequest body len c (untraced s) = untraced (sendRequest body len c s) := by
  simp only [sendRequest_eq, ← startAttempt_untraced]
  rfl

theorem buildWsr_untraced (v : Half) : buildWsr v (untraced s) = untraced (buildWsr v s) := sendRequest_untraced s _ _ _

theorem buildWmr_untraced (d v : Half) : buildWmr d v (untraced s) = untraced (buildWmr d v s) :=
  sendRequest_untraced s _ _ _

theorem recover_untraced : recover (untraced s) = untraced (recover s) := by
  simp only [recover, apply_ite untraced, emit_untraced s (o := .reinit) rfl, flush_untraced]
  rfl

theorem attemptFail_untraced (c : Cause) (d : Byte) : attemptFail c d (untraced s) = untraced (attemptFail c d s) := by
  simp only [attemptFail, apply_ite untraced, recover_untraced, raise_untraced]
  rfl

theorem mbTxAck_untraced : mbTxAck (untraced s) = untraced (mbTxAck s) := by
  simp only [mbTxAck, apply_ite untraced]
  rfl

theorem mbTxFail_untraced : mbTxFail (untraced s) = untraced (mbTxFail s) :=
  attemptFail_untraced { s with txPend := false } _ _

theorem validateWhole_untraced (L : Nat) (hL : L = 5 ∨ L = 8) :
    validateWhole L hL (untraced s) = untraced (validateWhole L hL s) := by
  simp only [validateWhole, attemptFail_untraced, completeOk_untraced, apply_ite untraced, untraced_rxb, untraced_frame]
  cases firstDiff 2 ((s.rxb.toList.drop 2).take 4) ((s.frame.toList.drop 2).take 4) with
  | none => rfl
  | some i => rfl

theorem validate_untraced : validate (untraced s) = hideTracing (validate s) := by
  simp only [validate, validateWhole_untraced, apply_dite hideTracing]
  rfl

theorem checkWhole_untraced : checkWhole (untraced s) = hideTracing (checkWhole s) := by
  simp only [checkWhole, validate_untraced, apply_ite hideTracing]
  rfl

theorem byteStored_untraced (b : Byte) : byteStored b (untraced s) = hideTracing (byteStored b s) := by
  simp only [byteStored, apply_ite hideTracing, ← checkWhole_untraced, attemptFail_untraced, hideTracing_next]
  rfl

theorem mbReceive_untraced : mbReceive (untraced s) = hideTracing (mbReceive s) := by
  unfold mbReceive
  rw [untraced_rxq]
  cases s.rxq with
  | nil => rfl
  | cons e rest =>
    simp only [apply_ite hideTracing, apply_dite hideTracing, ← byteStored_untraced, hideTracing_next,
      ← attemptFail_untraced]
    rfl

theorem mbRxTick_untraced : mbRxTick (untraced s) = untraced (mbRxTick s) := by
  simp only [mbRxTick, apply_ite untraced, ← attemptFail_untraced]
  rfl

theorem backoffTick_untraced : backoffTick (untraced s) = untraced (backoffTick s) := by
  simp only [backoffTick, apply_ite untraced, ← startAttempt_untraced]
  rfl

/-! ## The relay commands -/

theorem startRelay_untraced (ch : BitVec 2) (st : Bool) :
    startRelay ch st (untraced s) = untraced (startRelay ch st s) :=
  congrArg (fun u : State => { u with seq := .rlTx })
    (traceFrame_untraced
      { buildRelay ch st s with att := maxAttemptsRelay, attempts := maxAttemptsRelay, idx := 0 })

theorem relaySend_untraced (ch : BitVec 2) (st : Bool) : relaySend ch st (untraced s) = untraced (relaySend ch st s) := by
  simp only [relaySend, apply_ite untraced, startRelay_untraced, raise_untraced]
  rfl

theorem rlTxAck_untraced : rlTxAck (untraced s) = untraced (rlTxAck s) := by
  simp only [rlTxAck, apply_ite untraced]
  rfl

theorem rlTxFail_untraced : rlTxFail (untraced s) = untraced (rlTxFail s) :=
  raise_untraced { s with txPend := false } _ _ _

theorem settleTick_untraced : settleTick (untraced s) = untraced (settleTick s) := by
  simp only [settleTick, apply_ite untraced, ← completeOk_untraced, ← flush_untraced]
  rfl

/-! ## The axis, link and configuration commands -/

theorem axisCommand_untraced {addr which : Byte} {build : State → State}
    (hbuild : ∀ u, build (untraced u) = untraced (build u)) :
    axisCommand addr which build (untraced s) = untraced (axisCommand addr which build s) := by
  simp only [axisCommand, apply_ite untraced, ← hbuild, raise_untraced]
  rfl

theorem execLinkOpen_untraced (p : BitVec 2) (d : BitVec 4) (b : BitVec 2) (baud : Word) :
    execLinkOpen p d b baud (untraced s) = hideTracing (execLinkOpen p d b baud s) := by
  simp only [execLinkOpen, hideTracing_next, apply_ite untraced, raise_untraced,
    emit_untraced s (o := .openLink baud (linkFmtOf p d b)) rfl]
  rfl

theorem openOk_untraced : openOk (untraced s) = untraced (openOk s) := by
  simp only [openOk, ← completeOk_untraced, ← flush_untraced]
  rfl

theorem execLinkClose_untraced : execLinkClose (untraced s) = hideTracing (execLinkClose s) := by
  simp only [execLinkClose, hideTracing_next, ← completeOk_untraced, apply_ite untraced, flush_untraced,
    emit_untraced (flush s) (o := .close) rfl]
  rfl

theorem execSetRecovery_untraced (en : Bool) : execSetRecovery en (untraced s) = hideTracing (execSetRecovery en s) :=
  congrArg Host.Outcome.next (completeOk_untraced { s with recoveryEn := en })

theorem execCfgAxisAddr_untraced (ra dec : Byte) :
    execCfgAxisAddr ra dec (untraced s) = hideTracing (execCfgAxisAddr ra dec s) := by
  simp only [execCfgAxisAddr, hideTracing_next, apply_ite untraced, raise_untraced, ← completeOk_untraced]
  rfl

theorem execCfgRelay_untraced (m : Byte) (cp cm cd : BitVec 2) :
    execCfgRelay m cp cm cd (untraced s) = hideTracing (execCfgRelay m cp cm cd s) := by
  simp only [execCfgRelay, hideTracing_next, apply_ite untraced, raise_untraced, ← completeOk_untraced]
  rfl

/-- R95: SET_DEBUG writes the operand over DEBUG_EN, whatever it was. -/
theorem execSetDebug_untraced (en : Bool) : hideTracing (execSetDebug en (untraced s)) = hideTracing (execSetDebug en s) := by
  have hstate : untraced { untraced s with debugEn := en } = untraced { s with debugEn := en } := untraced_untraced s
  simp only [execSetDebug, hideTracing_next, ← completeOk_untraced, hstate]

/-- R85: a READ writes only the record of what was read. -/
theorem execRead_untraced (idx : Byte) : hideTracing (execRead idx (untraced s)) = hideTracing (execRead idx s) :=
  hideTracing_next_untraced s

/-! ## Every instruction and every event -/

theorem exec_untraced (i : Instr) : hideTracing (exec i (untraced s)) = hideTracing (exec i s) := by
  cases i with
  | linkOpen p d b baud => exact hideTracing_of_commutes (execLinkOpen_untraced s p d b baud)
  | linkClose => exact hideTracing_of_commutes (execLinkClose_untraced s)
  | setDebug en => exact execSetDebug_untraced s en
  | setRecovery en => exact hideTracing_of_commutes (execSetRecovery_untraced s en)
  | cfgAxisAddr ra dec => exact hideTracing_of_commutes (execCfgAxisAddr_untraced s ra dec)
  | cfgRelay m cp cm cd => exact hideTracing_of_commutes (execCfgRelay_untraced s m cp cm cd)
  | setRaSpeed v => exact hideTracing_next_of_commutes (axisCommand_untraced s (buildWsr_untraced · v))
  | setDecSpeed v d => exact hideTracing_next_of_commutes (axisCommand_untraced s (buildWmr_untraced · d v))
  | stopDec => exact hideTracing_next_of_commutes (axisCommand_untraced s (buildWmr_untraced · 0 0))
  | setRelay ch st => exact hideTracing_next_of_commutes (relaySend_untraced s ch st)
  | powerOn | powerOff | dplusOn | dplusOff | dminusOn | dminusOff =>
    exact hideTracing_next_of_commutes (relaySend_untraced s _ _)
  | read idx => exact execRead_untraced s idx
  | wsrFrame | wmrFrame | adamFrame => exact hideTracing_of_commutes (transmit_untraced s _)

theorem dispatchStep_untraced : hideTracing (dispatchStep (untraced s)) = hideTracing (dispatchStep s) := by
  unfold dispatchStep
  rw [untraced_cmdLatch, untraced_argLatch]
  cases decode (.command s.cmdLatch s.argLatch) with
  | instr i => exact exec_untraced s i
  | reservedOpcode opc => exact hideTracing_next_of_commutes (raise_untraced s _ _ _)
  | reservedField n => exact hideTracing_next_of_commutes (raise_untraced s _ _ _)
  | notAFrame => exact hideTracing_next_untraced s

theorem transmitStep_untraced : transmitStep (untraced s) = hideTracing (transmitStep s) := by
  rw [transmitStep_eq, transmitStep_eq]
  exact transmit_untraced s (frameBytes s)

theorem handleInternal_untraced : hideTracing (handleInternal (untraced s)) = hideTracing (handleInternal s) := by
  unfold handleInternal
  rw [untraced_seq]
  cases s.seq with
  | dispatch => exact dispatchStep_untraced s
  | mbTx | rlTx => exact hideTracing_of_commutes (transmitStep_untraced s)
  | mbRx => exact hideTracing_of_commutes (mbReceive_untraced s)
  | _ => exact hideTracing_next_untraced s

theorem handleTick_untraced : handleTick (untraced s) = untraced (handleTick s) := by
  unfold handleTick
  rw [untraced_seq]
  cases s.seq with
  | mbRx => exact mbRxTick_untraced s
  | mbBackoff => exact backoffTick_untraced s
  | rlSettle => exact settleTick_untraced s
  | _ => rfl

theorem handleTxAck_untraced : handleTxAck (untraced s) = untraced (handleTxAck s) := by
  unfold handleTxAck
  rw [untraced_seq]
  cases s.seq with
  | mbTx => exact mbTxAck_untraced s
  | rlTx => exact rlTxAck_untraced s
  | _ => rfl

theorem handleTxFail_untraced : handleTxFail (untraced s) = untraced (handleTxFail s) := by
  unfold handleTxFail
  rw [untraced_seq]
  cases s.seq with
  | mbTx => exact mbTxFail_untraced s
  | rlTx => exact rlTxFail_untraced s
  | _ => rfl

theorem handle_untraced (e : Event) : hideTracing (handle e (untraced s)) = hideTracing (handle e s) := by
  cases e with
  | hostCmd w0 w1 => exact hideTracing_next_untraced (acceptCommand w0 w1 s)
  | hostRead idx => exact execRead_untraced s idx
  | tick => exact hideTracing_next_of_commutes (handleTick_untraced s)
  | txAck => exact hideTracing_next_of_commutes (handleTxAck_untraced s)
  | txFail => exact hideTracing_next_of_commutes (handleTxFail_untraced s)
  | rxByte b err => exact hideTracing_next_of_commutes (receiveByte_untraced s b err)
  | openOk => exact hideTracing_next_of_commutes (openOk_untraced s)
  | openFail c => exact hideTracing_next_of_commutes (raise_untraced s _ _ _)
  | internal => exact handleInternal_untraced s
  | reset => exact hideTracing_next_untraced (resetBlock s)

/-! ## The step -/

/-- The tracing enables no event and disables none (R73). -/
theorem enabled_untraced (e : Event) : enabled e (untraced s) = enabled e s := rfl

theorem takeEnabled_untraced (es : List Event) : takeEnabled (untraced s) es = takeEnabled s es := by
  induction es with
  | nil => rfl
  | cons e es ih => rw [takeEnabled, takeEnabled, enabled_untraced, ih]

theorem nextEvent_untraced : nextEvent (untraced s) = nextEvent s := by
  simp only [nextEvent, takeEnabled_untraced]
  rfl

theorem step_untraced : hideTracing (step (untraced s)) = hideTracing (step s) := by
  unfold step
  rw [nextEvent_untraced]
  cases nextEvent s with
  | none => exact hideTracing_next_untraced s
  | some r => exact handle_untraced { s with inputs := r.2 } r.1

end

/-- Settles O59: both states step as the state they share once the tracing is struck out. -/
theorem debugTracingChangesOnlyTraces : Obligations.DebugTracingChangesOnlyTraces := by
  intro s1 s2 t1 h h1
  have hhide : hideTracing (step s2) = .next (untraced t1) := by
    calc hideTracing (step s2)
      _ = hideTracing (step (untraced s2)) := (step_untraced s2).symm
      _ = hideTracing (step (untraced s1)) := by rw [h]
      _ = hideTracing (step s1) := step_untraced s1
      _ = .next (untraced t1) := congrArg hideTracing h1
  obtain ⟨t2, h2, ht⟩ := hideTracing_eq_next hhide
  exact ⟨t2, h2, ht.symm⟩

end Sys2Proof.Machine

/-! PROOFS. The link and configuration commands (O18, O20 to O23), and the answer of the PHY to a LINK_OPEN (O19). -/

namespace Sys2Proof.Machine

open Sys2Proof.Safety Sys2Proof.Claims

/-- R130, written out. -/
theorem raise_eq_failed (cls : ErrClass) (c : Cause) (d : Byte) (s : State) :
    raise cls c d s = failed (errWord (opcodeOf s) d (causeCode c) (classCode cls)) s := rfl

/-- R83, written out. -/
theorem completeOk_eq_succeeded (s : State) : completeOk s = succeeded s := rfl

/-- R6, R99: the one channel above `CHANNEL_MAX` is 3. -/
theorem channelMax_lt_iff {ch : BitVec 2} : channelMax < ch ↔ ch = 3 := by
  revert ch
  decide

/-- Settles O18: the checks stand in R91's order, and each of them raises what its rule names. -/
theorem linkOpenChecksThenAsksThePhy : Obligations.LinkOpenChecksThenAsksThePhy := by
  intro s par db sb baud
  simp only [exec, execLinkOpen, raise_eq_failed]
  rfl

/-- Settles O19: both answers are enabled in OPEN_WAIT. -/
theorem phyAnswerEndsTheOpen : Obligations.PhyAnswerEndsTheOpen := by
  intro s rest hs
  refine ⟨fun hin => ?_, fun c hin => ?_⟩
  · calc step s
      _ = .next (openOk { s with inputs := rest }) := step_head hin (by simp [enabled, hs])
      _ = _ := by simp [openOk, completeOk, flush, emit]
  · calc step s
      _ = .next (openFail c { s with inputs := rest }) := step_head hin (by simp [enabled, hs])
      _ = _ := congrArg Host.Outcome.next (raise_eq_failed .connection .openFailed c { s with inputs := rest })

/-- Settles O20, by whether there is a link to release. -/
theorem linkCloseReleasesOnce : Obligations.LinkCloseReleasesOnce := by
  intro s
  by_cases hopen : s.linkOpen = true
  · simp [exec, execLinkClose, hopen, completeOk, flush, emit]
  · simp [exec, execLinkClose, hopen, completeOk_eq_succeeded]

/-- Settles O21: both commands end in `complete_ok()` with the operand written. -/
theorem switchCommandsWriteTheirSwitch : Obligations.SwitchCommandsWriteTheirSwitch := fun s en =>
  ⟨congrArg Host.Outcome.next (completeOk_eq_succeeded { s with debugEn := en }),
    congrArg Host.Outcome.next (completeOk_eq_succeeded { s with recoveryEn := en })⟩

/-- Settles O22: `SLAVE_MIN` and `SLAVE_MAX` are the bounds of R98. -/
theorem cfgAxisAddrChecksThenWrites : Obligations.CfgAxisAddrChecksThenWrites := by
  intro s ra dec
  simp only [exec, execCfgAxisAddr, raise_eq_failed, completeOk_eq_succeeded]
  rfl

/-- Settles O23: a channel above `CHANNEL_MAX` is 3. -/
theorem cfgRelayChecksThenWrites : Obligations.CfgRelayChecksThenWrites := by
  intro s m cp cm cd
  simp only [exec, execCfgRelay, channelMax_lt_iff, raise_eq_failed, completeOk_eq_succeeded]
  rfl

end Sys2Proof.Machine

/-! PROOFS. The CRC of a frame that carries its CRC (O29). -/

namespace Sys2Proof.Machine

open Sys2Proof.Safety Sys2Proof.Claims

/-- R100 under MODBUS: a shift that drops a 0 bit does not meet the polynomial, so `n` of them are a plain shift. -/
theorem crcShifts_modbus_of_low_zero {n : Nat} {c : Half} (h : ∀ i < n, c.getLsbD i = false) :
    crcShifts .modbus n c = c >>> n := by
  induction n generalizing c with
  | zero => exact (BitVec.ushiftRight_zero c).symm
  | succ n ih =>
    have hshift : crcShift .modbus c = c >>> 1 := if_neg (Bool.eq_false_iff.mp (h 0 (by omega)))
    have hlow : ∀ i < n, (c >>> 1).getLsbD i = false := fun i hi => by
      rw [BitVec.getLsbD_ushiftRight]
      exact h _ (by omega)
    rw [crcShifts, hshift, ih hlow, Nat.add_comm n 1, BitVec.shiftRight_add]

/-- The register's own low byte cancels what stands there. -/
theorem crcByte_modbus_lo8 (c : Half) : crcByte .modbus c (lo8 c) = c >>> 8 := by
  have hbit (i : Nat) : (c ^^^ (lo8 c).setWidth 16).getLsbD i = (c.getLsbD i && !decide (i < 8)) := by
    by_cases hi : i < 8
    · simp [lo8, hi, show i < 16 by omega]
    · simp [lo8, hi]
  have hlow : ∀ i < 8, (c ^^^ (lo8 c).setWidth 16).getLsbD i = false := fun i hi => by
    simp [hbit, hi]
  rw [crcByte, crcEnter, crcShifts_modbus_of_low_zero hlow]
  apply BitVec.eq_of_getLsbD_eq
  intro i _
  simp [hbit]

/-- R101: a register cancels against its own two bytes, low byte first. -/
theorem foldl_crcByte_modbus_crcBytes (c : Half) : (crcBytes c).foldl (crcByte .modbus) c = 0 := by
  have hhigh : lo8 (c >>> 8) = hi8 c := by
    apply BitVec.eq_of_getLsbD_eq
    intro i hi
    simp [lo8, hi8, hi]
  calc (crcBytes c).foldl (crcByte .modbus) c
    _ = crcByte .modbus (c >>> 8) (lo8 (c >>> 8)) := by simp [crcBytes, crcByte_modbus_lo8, hhigh]
    _ = c >>> 8 >>> 8 := crcByte_modbus_lo8 _
    _ = 0 := by rw [← BitVec.shiftRight_add, BitVec.ushiftRight_eq_zero le_rfl]; rfl

/-- Settles O29: under CCITT_FALSE the empty sequence and the single byte 0 have different residues. -/
theorem crcResidue : Obligations.CrcResidue := by
  refine ⟨fun bs => ?_, fun ⟨r, hr⟩ => ?_⟩
  · rw [crc16_append, foldl_crcByte_modbus_crcBytes]
  · have hne : crc16 .ccittFalse ([] ++ crcBytes (crc16 .ccittFalse [])) ≠
        crc16 .ccittFalse ([0] ++ crcBytes (crc16 .ccittFalse [0])) := by decide +kernel
    exact hne ((hr []).trans (hr [0]).symm)

end Sys2Proof.Machine

/-! PROOFS. The transmission of a frame, event by event: the offer of a byte (O30), its acknowledgement (O32) and its
failure (O33). -/

namespace Sys2Proof.Machine

open Sys2Proof.Safety Sys2Proof.Claims

/-- R105, R122: what is encoded as bytes on the wire offers the next of these bytes. -/
theorem exec_of_encode_wire {i : Instr} {bs : List Byte} (h : encode i = .wire bs) (s : State) :
    exec i s = transmit bs s :=
  exec_of_decodeWire (h ▸ decodeOfEncodeIsIdentity i) h

/-- Settles O30: the frame's bytes are those it is encoded as. -/
theorem wireFramesOfferTheirNextByte : Obligations.WireFramesOfferTheirNextByte := by
  intro s i bs henc
  rw [exec_of_encode_wire henc]
  refine ⟨fun hs hp hlt => ?_, fun hs hp hle => ?_, fun hoff => ?_⟩
  · exact transmit_of_getElem? ((mayTransmit_iff s).mpr ⟨hs, hp⟩) (List.getElem?_eq_getElem hlt)
  · rw [transmit, if_pos ((mayTransmit_iff s).mpr ⟨hs, hp⟩), List.getElem?_eq_none hle]
  · refine if_neg fun hmay => ?_
    obtain ⟨hs, hp⟩ := (mayTransmit_iff s).mp hmay
    exact hoff.elim (· hs) (by simp [hp])

/-- Settles O32, by whether the byte acknowledged is the frame's last. -/
theorem txAckAdvancesTheFrame : Obligations.TxAckAdvancesTheFrame := by
  intro s rest hin hp hs h13
  have hack : acknowledgeByte { s with inputs := rest } =
      { s with inputs := rest, txPend := false, idx := s.idx + 1, wire := s.wire ++ [s.frame[s.idx.toNat]] } := by
    simp [acknowledgeByte, h13]
  rw [step_txAck hp hin]
  by_cases hend : s.idx + 1 = s.flen
  · rw [if_pos hend, handleTxAck_at_end (s := { s with inputs := rest }) hs hend, hack]
  · rw [if_neg hend, handleTxAck_before_end (s := { s with inputs := rest }) hs hend, hack]

/-- Settles O33: in MB_TX the failure of a byte is that of the attempt. -/
theorem txFailEndsTheAttempt : Obligations.TxFailEndsTheAttempt := by
  intro s rest hin hp hs
  calc step s
    _ = .next (handleTxFail { s with inputs := rest }) := step_head hin hp
    _ = .next (mbTxFail { s with inputs := rest }) := congrArg Host.Outcome.next (handleTxFail_mbTx hs)
    _ = _ := congrArg Host.Outcome.next (attemptFail_eq .txFault _ _)

end Sys2Proof.Machine

/-! PROOFS. The end of a reception: an errored byte (O35), and the checks of a normal response (O37). -/

namespace Sys2Proof.Machine

open Sys2Proof.Safety Sys2Proof.Claims

/-- R108: an errored byte, or an overflow, fails the attempt before the byte is stored. -/
theorem mbReceive_of_error {s : State} {e : RxEntry} {more : List RxEntry} (hq : s.rxq = e :: more)
    (herr : e.err = true ∨ s.rxqOvf = true) :
    mbReceive s = .next (attemptEnds 0x12 (s.rxn.setWidth 8) { s with rxq := more, cnt := 0 }) := by
  have hbad : (e.err || s.rxqOvf) = true := by simpa using herr
  simp only [mbReceive, hq, hbad, if_true, attemptFail_eq]
  rfl

/-- Settles O35: the step is the receive step, and the entry ends the attempt. -/
theorem erroredByteEndsTheAttempt : Obligations.ErroredByteEndsTheAttempt := by
  intro s e more rest hnext hs hq herr
  calc step s
    _ = handleInternal { s with inputs := rest } := step_of_nextEvent hnext
    _ = mbReceive { s with inputs := rest } := handleInternal_mbRx hs
    _ = _ := mbReceive_of_error hq herr

/-- The four bytes of a buffer from index 2 on, which R109 compares. -/
theorem take_drop_two {n : Nat} (buf : Vector Byte n) (h : 6 ≤ n) :
    (buf.toList.drop 2).take 4 = [buf[2], buf[3], buf[4], buf[5]] := by
  have hlen : buf.toList.length = n := Vector.length_toList
  rw [List.drop_eq_getElem_cons (by omega), List.drop_eq_getElem_cons (by omega),
    List.drop_eq_getElem_cons (by omega), List.drop_eq_getElem_cons (by omega)]
  simp

/-- R109 on a normal response: the echo is compared at 2, 3, 4 and 5, in this order. -/
theorem validateWhole_eight (s : State) :
    validateWhole 8 (.inr rfl) s =
      (if s.rxb[6] ≠ (crc16 s.cfg.crcPreset (s.rxb.toList.take 6)).extractLsb' 0 8 ∨
          s.rxb[7] ≠ (crc16 s.cfg.crcPreset (s.rxb.toList.take 6)).extractLsb' 8 8 then attemptEnds 0x14 0 s
       else if s.rxb[0] ≠ s.activeSlave then attemptEnds 0x15 s.rxb[0] s
       else if s.rxb[2] ≠ s.frame[2] then attemptEnds 0x17 2 s
       else if s.rxb[3] ≠ s.frame[3] then attemptEnds 0x17 3 s
       else if s.rxb[4] ≠ s.frame[4] then attemptEnds 0x17 4 s
       else if s.rxb[5] ≠ s.frame[5] then attemptEnds 0x17 5 s
       else succeeded s) := by
  unfold validateWhole
  rw [take_drop_two s.rxb (by decide), take_drop_two s.frame (by decide)]
  simp only [attemptFail_eq, completeOk_eq_succeeded]
  refine if_congr Iff.rfl rfl (if_congr Iff.rfl rfl ((if_neg (by decide)).trans ?_))
  simp only [firstDiff, ne_eq, ite_not]
  split_ifs <;> rfl

/-- Settles O37: the eighth byte completes the response, and the checks read the seven bytes before it unchanged. -/
theorem normalResponseChecksInOrder : Obligations.NormalResponseChecksInOrder := by
  intro s b more rest hnext hs hq hovf hn hl
  have hst : stored b more { s with inputs := rest } =
      { s with inputs := rest, rxq := more, cnt := 0, rxn := 8, rxb := s.rxb.set 7 b } := by
    simp [stored, hn]
  have hbody : (s.rxb.set 7 b).toList.take 6 = s.rxb.toList.take 6 := by
    rw [Vector.toList_set, List.take_set_of_le (by decide)]
  refine ⟨_, rfl, ?_⟩
  rw [step_receive hnext hs hq hovf (by simp [hn]), hst, byteStored_last (.inr rfl) rfl (by simp [hl]),
    validateWhole_eight]
  simp [hbody]

end Sys2Proof.Machine

/-! PROOFS. Waits counted in ticks: the timeout of a silent slave (O40) and the backoff (O41). -/

namespace Sys2Proof.Machine

open Sys2Proof.Safety Sys2Proof.Claims

/-! ## A wait -/

/-- `n` ticks have been counted, and `rest` is still to come. -/
def counted (n : Nat) (rest : List Event) (s : State) : State := { s with inputs := rest, cnt := BitVec.ofNat 16 n }

theorem ticks_add (m n : Nat) : ticks (m + n) = ticks m ++ ticks n := List.replicate_add ..

section

variable {s t : State} {N : Nat} {rest : List Event}
variable (hcount : ∀ n < N, ∀ rest, step (counted n (.tick :: rest) s) = .next (counted (n + 1) rest s))
include hcount

/-- Ticks that only count. -/
theorem run_counted {n : Nat} (hn : n ≤ N) : run n (counted 0 (ticks n ++ rest) s) = .next (counted n rest s) := by
  induction n generalizing rest with
  | zero => rfl
  | succ n ih =>
    rw [ticks_add, List.append_assoc, run_add (ih (by omega))]
    exact run_succ_of_step (hcount n hn rest)

/-- A wait of `N + 1` ticks: `N` of them count, and the last one ends it. -/
theorem run_wait (hcnt : s.cnt = 0) (hin : s.inputs = ticks (N + 1) ++ rest)
    (hlast : step (counted N (.tick :: rest) s) = .next t) :
    run (N + 1) s = .next t ∧ ∀ n < N + 1, run n s = .next (counted n (ticks (N + 1 - n) ++ rest) s) := by
  have hstart {n : Nat} (hn : n ≤ N + 1) : s = counted 0 (ticks n ++ (ticks (N + 1 - n) ++ rest)) s := by
    have hticks : ticks n ++ (ticks (N + 1 - n) ++ rest) = s.inputs := by
      rw [hin, ← List.append_assoc, ← ticks_add, Nat.add_sub_cancel' hn]
    cases s
    simp_all [counted]
  have hearlier (n : Nat) (hn : n < N + 1) : run n s = .next (counted n (ticks (N + 1 - n) ++ rest) s) :=
    (congrArg (run n) (hstart hn.le)).trans (run_counted hcount (by omega))
  have hbefore := hearlier N (by omega)
  rw [Nat.add_sub_cancel_left] at hbefore
  exact ⟨(run_add hbefore).trans (run_succ_of_step hlast), hearlier⟩

end

/-! ## The timeout -/

/-- R110, written out. -/
theorem mbRxTick_eq (s : State) :
    mbRxTick s =
      (if s.rxq ≠ [] then s
       else if s.cnt + 1 = rxLimit s then attemptEnds 0x11 (s.rxn.setWidth 8) { s with cnt := rxLimit s }
       else { s with cnt := s.cnt + 1 }) := by
  obtain ⟨hq, h⟩ | ⟨hq, hc, h⟩ | ⟨hq, hc, h⟩ := mbRxTick_cases s
  · rw [h, if_pos hq]
  · rw [h, if_neg (not_not.mpr hq), if_pos hc, hc, attemptFail_eq]
    rfl
  · rw [h, if_neg (not_not.mpr hq), if_neg hc]

section

variable {s : State} {rest : List Event}

theorem step_tick (hin : s.inputs = .tick :: rest) : step s = .next (handleTick { s with inputs := rest }) :=
  step_head hin rfl

/-- The step of a tick in MB_RX (R110). -/
theorem step_tick_mbRx (hs : s.seq = .mbRx) (hin : s.inputs = .tick :: rest) :
    step s = .next
      (if s.rxq ≠ [] then { s with inputs := rest }
       else if s.cnt + 1 = rxLimit s then
        attemptEnds 0x11 (s.rxn.setWidth 8) { s with inputs := rest, cnt := rxLimit s }
       else { s with inputs := rest, cnt := s.cnt + 1 }) := by
  rw [step_tick hin, handleTick_mbRx (s := { s with inputs := rest }) hs, mbRxTick_eq]
  rfl

/-- The step of a tick in MB_RX where no byte waits. -/
theorem step_tick_silent (hs : s.seq = .mbRx) (hq : s.rxq = []) (hin : s.inputs = .tick :: rest) :
    step s = .next
      (if s.cnt + 1 = rxLimit s then
        attemptEnds 0x11 (s.rxn.setWidth 8) { s with inputs := rest, cnt := rxLimit s }
       else { s with inputs := rest, cnt := s.cnt + 1 }) := by
  rw [step_tick_mbRx hs hin, if_neg (not_not.mpr hq)]

/-- Short of the limit a tick only counts. -/
theorem step_counted_mbRx {n : Nat} (hs : s.seq = .mbRx) (hq : s.rxq = []) (hn : n + 1 < (rxLimit s).toNat) :
    step (counted n (.tick :: rest) s) = .next (counted (n + 1) rest s) := by
  have hmore : (counted n (.tick :: rest) s).cnt + 1 ≠ rxLimit (counted n (.tick :: rest) s) := by
    change BitVec.ofNat 16 n + 1 ≠ rxLimit s
    bv_omega
  rw [step_tick_silent (s := counted n (.tick :: rest) s) hs hq rfl, if_neg hmore]
  simp [counted, BitVec.ofNat_add]

/-- The limit's last tick fails the attempt. -/
theorem step_counted_mbRx_last {n : Nat} (hs : s.seq = .mbRx) (hq : s.rxq = []) (hn : (rxLimit s).toNat = n + 1) :
    step (counted n (.tick :: rest) s) =
      .next (attemptEnds 0x11 (s.rxn.setWidth 8) { s with inputs := rest, cnt := rxLimit s }) := by
  have hlast : (counted n (.tick :: rest) s).cnt + 1 = rxLimit (counted n (.tick :: rest) s) := by
    change BitVec.ofNat 16 n + 1 = rxLimit s
    bv_omega
  rw [step_tick_silent (s := counted n (.tick :: rest) s) hs hq rfl, if_pos hlast]
  rfl

end

/-- Settles O40: the limit is a wait. -/
theorem silentSlaveTimesOut : Obligations.SilentSlaveTimesOut := by
  refine ⟨fun s lim rest hs hin hlim => ?_, fun s lim rest hs hq hcnt hlim hpos hin => ?_⟩
  · obtain rfl : lim = rxLimit s := hlim
    exact step_tick_mbRx hs hin
  · obtain rfl : lim = rxLimit s := hlim
    obtain ⟨N, hN⟩ : ∃ N, (rxLimit s).toNat = N + 1 :=
      Nat.exists_eq_succ_of_ne_zero (by simpa [BitVec.toNat_eq] using hpos)
    rw [hN] at hin ⊢
    exact run_wait (fun n hn rest => step_counted_mbRx hs hq (by omega)) hcnt hin (step_counted_mbRx_last hs hq hN)

/-! ## The backoff -/

/-- R104, written out. -/
theorem startAttempt_eq_attemptStarts (s : State) : startAttempt s = attemptStarts s := startAttempt_eq s

section

variable {s : State} {rest : List Event}

/-- The step of a tick in MB_BACKOFF (R112). -/
theorem step_tick_mbBackoff (hs : s.seq = .mbBackoff) (hin : s.inputs = .tick :: rest) :
    step s = .next
      (if s.cnt + 1 = 150 then attemptStarts { s with inputs := rest, att := s.att + 1 }
       else { s with inputs := rest, cnt := s.cnt + 1 }) := by
  rw [step_tick hin, handleTick_mbBackoff (s := { s with inputs := rest }) hs]
  obtain ⟨hc, h⟩ | ⟨hc, h⟩ := backoffTick_cases { s with inputs := rest }
  · rw [h, if_pos hc, startAttempt_eq_attemptStarts]
    rfl
  · rw [h, if_neg hc]

/-- Short of the 150th a tick of a backoff only counts. -/
theorem step_counted_mbBackoff {n : Nat} (hs : s.seq = .mbBackoff) (hn : n < 149) :
    step (counted n (.tick :: rest) s) = .next (counted (n + 1) rest s) := by
  have hmore : (counted n (.tick :: rest) s).cnt + 1 ≠ 150 := by
    simp only [counted]
    bv_omega
  rw [step_tick_mbBackoff (s := counted n (.tick :: rest) s) hs rfl, if_neg hmore]
  simp [counted, BitVec.ofNat_add]

end

/-- Settles O41: a backoff is a wait of 150 ticks. -/
theorem backoffLastsItsTicks : Obligations.BackoffLastsItsTicks := by
  refine ⟨fun s rest hs hin => step_tick_mbBackoff hs hin, fun s rest hs hcnt hin => ?_⟩
  exact run_wait (N := 149) (fun n hn rest => step_counted_mbBackoff hs hn) hcnt hin
    (step_tick_mbBackoff (s := counted 149 (.tick :: rest) s) hs rfl)

end Sys2Proof.Machine

/-! PROOFS. The bounded retry (O42): an attempt that is not answered, the backoff after it, and five such attempts. -/

namespace Sys2Proof.Machine

open Sys2Proof.Safety Sys2Proof.Claims

/-- An attempt is about to send its frame, without recovery and tracing. -/
structure AtAttempt (s : State) : Prop where
  seq : s.seq = .mbTx
  txPend : s.txPend = false
  idx : s.idx = 0
  rxn : s.rxn = 0
  rxl : s.rxl = 0
  flen_ne : s.flen ≠ 0
  flen_le : s.flen.toNat ≤ 13
  rxq : s.rxq = []
  recoveryEn : s.recoveryEn = false
  debugEn : s.debugEn = false
  limit_ne : s.cfg.respTimeoutTicks ≠ 0

/-- The whole frame is sent, and the response timeout has run out. -/
def unanswered (rest : List Event) (s : State) : State :=
  { s with
    inputs := rest, seq := .mbRx, idx := s.flen, cnt := s.cfg.respTimeoutTicks
    outputs := s.outputs ++ (frameBytes s).map Output.tx
    wire := s.wire ++ frameBytes s }

/-- `k` attempts were not answered, and the next one is about to send its frame. -/
def retried (k : Nat) (rest : List Event) (s : State) : State :=
  { s with
    inputs := rest, att := s.att + BitVec.ofNat 3 k, attempts := s.att + BitVec.ofNat 3 k, cnt := 0, rxqOvf := false
    outputs := s.outputs ++ (List.replicate k ((frameBytes s).map Output.tx)).flatten
    wire := s.wire ++ (List.replicate k (frameBytes s)).flatten }

/-- The steps of one attempt that is not answered. -/
def attemptSteps (s : State) : Nat := 2 * s.flen.toNat + s.cfg.respTimeoutTicks.toNat

section

variable {s : State} {rest : List Event}

/-- R111: without recovery an attempt before the fifth only leaves its backoff. -/
theorem attemptEnds_of_ne {cause detail : Byte} (hrec : s.recoveryEn = false) (hatt : s.att ≠ 5) :
    attemptEnds cause detail s = { s with cnt := 0, seq := .mbBackoff } := by
  have hkeep : recovered s = s := if_neg (by simp [hrec])
  rw [attemptEnds, if_neg hatt, hkeep]

/-- R111: without recovery the fifth attempt only fails the command. -/
theorem attemptEnds_of_eq {cause detail : Byte} (hrec : s.recoveryEn = false) (hatt : s.att = 5) :
    attemptEnds cause detail s = failed (errWord (opcodeOf s) detail cause 2) s := by
  have hkeep : recovered s = s := if_neg (by simp [hrec])
  rw [attemptEnds, if_pos hatt, hkeep]

/-- R105, R106, R110: the frame goes out whole, and then the attempt times out. -/
theorem run_silentAttempt (h : AtAttempt s) (hin : s.inputs = silentAttempt s ++ rest) :
    run (attemptSteps s) s = .next (attemptEnds 0x11 0 (unanswered rest s)) := by
  have hsent := frameGoesOutWholeAndInOrder s (ticks s.cfg.respTimeoutTicks.toNat ++ rest) (.inl h.seq) h.txPend h.idx
    h.flen_ne h.flen_le (by rw [hin, silentAttempt, List.append_assoc])
  have hwait := (silentSlaveTimesOut.2 { unanswered (ticks s.cfg.respTimeoutTicks.toNat ++ rest) s with cnt := 0 }
    s.cfg.respTimeoutTicks rest rfl h.rxq rfl (if_pos h.rxn).symm h.limit_ne rfl).1
  rw [if_pos h.seq] at hsent
  calc run (attemptSteps s) s
    _ = _ := run_add hsent
    _ = _ := hwait
    _ = _ := by simp [unanswered, h.rxn]

/-- R111, R112: before the fifth attempt a backoff follows, and then the next attempt. -/
theorem run_silentAttempt_backoff (h : AtAttempt s) (hatt : s.att ≠ 5)
    (hin : s.inputs = silentAttempt s ++ ticks 150 ++ rest) :
    run (attemptSteps s + 150) s = .next (retried 1 rest s) := by
  have htimeout := run_silentAttempt h (hin.trans (List.append_assoc ..))
  rw [attemptEnds_of_ne (s := unanswered (ticks 150 ++ rest) s) h.recoveryEn hatt] at htimeout
  rw [run_add htimeout, (backoffLastsItsTicks.2 _ rest rfl rfl rfl).1]
  simp [attemptStarts, unanswered, retried, h.idx, h.rxn, h.rxl, h.seq, h.debugEn]

/-- R111: the fifth attempt's failure is the command's. -/
theorem run_silentAttempt_last (h : AtAttempt s) (hatt : s.att = 5) (hin : s.inputs = silentAttempt s ++ rest) :
    run (attemptSteps s) s = .next (failed (errWord (opcodeOf s) 0 0x11 2) (unanswered rest s)) := by
  rw [run_silentAttempt h hin, attemptEnds_of_eq (s := unanswered rest s) h.recoveryEn hatt]
  rfl

/-- A retry sends the same frame and counts to the same limit. -/
theorem AtAttempt.retried (h : AtAttempt s) (k : Nat) (rest : List Event) : AtAttempt (retried k rest s) :=
  { h with }

theorem retried_retried (k : Nat) (rest' : List Event) :
    retried 1 rest (retried k rest' s) = retried (k + 1) rest s := by
  simp [retried, frameBytes, List.replicate_succ', BitVec.ofNat_add, BitVec.add_assoc]

theorem flatten_replicate_succ_append {α : Type} (k : Nat) (xs ys : List α) :
    (List.replicate (k + 1) xs).flatten ++ ys = (List.replicate k xs).flatten ++ (xs ++ ys) := by
  simp [List.replicate_succ']

/-- R113: up to four unanswered attempts, each with the backoff after it. -/
theorem run_retried {k : Nat} (h : AtAttempt s) (hatt : s.att = 1) (hk : k + 1 ≤ 4)
    (hin : s.inputs = (List.replicate (k + 1) (silentAttempt s ++ ticks 150)).flatten ++ rest) :
    run ((k + 1) * (attemptSteps s + 150)) s = .next (retried (k + 1) rest s) := by
  induction k generalizing rest with
  | zero =>
    rw [Nat.zero_add, Nat.one_mul]
    exact run_silentAttempt_backoff h (by simp [hatt]) (by simpa using hin)
  | succ k ih =>
    have hbefore := ih (by omega) (hin.trans (flatten_replicate_succ_append ..))
    have hfifth : s.att + BitVec.ofNat 3 (k + 1) ≠ 5 := by
      rw [hatt]
      bv_omega
    rw [Nat.succ_mul, run_add hbefore, ← retried_retried (k + 1) (silentAttempt s ++ ticks 150 ++ rest)]
    exact run_silentAttempt_backoff (h.retried _ _) hfifth rfl

end

/-- Settles O42: four attempts with their backoffs, then the fifth. -/
theorem permanentFailureMakesFiveAttempts : Obligations.PermanentFailureMakesFiveAttempts := by
  intro s rest hs hp hidx hrxn hrxl hatt hpos h13 hq hrec hdbg hlim hin
  have h : AtAttempt s := ⟨hs, hp, hidx, hrxn, hrxl, hpos, h13, hq, hrec, hdbg, hlim⟩
  have hfour := run_retried h hatt le_rfl (hin.trans (List.append_assoc ..))
  have hlast := run_silentAttempt_last (rest := rest) (h.retried 4 (silentAttempt s ++ rest))
    (by simp [retried, hatt]) rfl
  have hsteps : 5 * (2 * s.flen.toNat + s.cfg.respTimeoutTicks.toNat) + 4 * 150 =
      4 * (attemptSteps s + 150) + attemptSteps s := by
    unfold attemptSteps
    omega
  rw [hsteps, run_add hfour]
  refine hlast.trans (congrArg Host.Outcome.next ?_)
  simp [failed, unanswered, retried, opcodeOf, frameBytes, hatt]

end Sys2Proof.Machine

/-! PROOFS. The axis commands (O25 to O28): their refusals, and the request each of them starts. -/

namespace Sys2Proof.Machine

open Sys2Proof.Safety Sys2Proof.Claims

/-! ## The shape of an axis command -/

section

variable {s : State} {addr which : Byte} {build : State → State}

/-- R114: the link is looked at first. -/
theorem axisCommand_of_closed (hclosed : s.linkOpen = false) :
    axisCommand addr which build s = failed (errWord (opcodeOf s) 0 0x30 4) s :=
  (if_pos hclosed).trans (raise_eq_failed .usage .linkNotOpen 0 s)

/-- R114: then the address. -/
theorem axisCommand_of_unconfigured (hopen : s.linkOpen = true) (haddr : addr = 0) :
    axisCommand addr which build s = failed (errWord (opcodeOf s) which 0x32 4) s := by
  rw [axisCommand, if_neg (by simp [hopen]), if_pos haddr]
  exact raise_eq_failed .usage .addrUnconfigured which s

/-- R102, R103: an axis command that is not refused selects its slave and builds its request. -/
theorem axisCommand_of_configured (hopen : s.linkOpen = true) (haddr : addr ≠ 0) :
    axisCommand addr which build s = build (muxSelect addr s) := by
  rw [axisCommand, if_neg (by simp [hopen]), if_neg haddr]

/-- R115 to R117: the three axis commands have one shape. -/
theorem exec_of_axisOperands {i : Instr} (h : axisOperands i s = some (addr, which)) :
    ∃ build, exec i s = .next (axisCommand addr which build s) := by
  cases i with
  | setRaSpeed | setDecSpeed | stopDec =>
    cases h
    exact ⟨_, rfl⟩
  | _ => cases h

end

/-- Settles O25: the two refusals of the shape. -/
theorem axisCommandPreconditions : Obligations.AxisCommandPreconditions := by
  intro i s addr which hi
  obtain ⟨build, hexec⟩ := exec_of_axisOperands hi
  exact ⟨fun hclosed => hexec.trans (congrArg _ (axisCommand_of_closed hclosed)),
    fun hopen haddr => hexec.trans (congrArg _ (axisCommand_of_unconfigured hopen haddr))⟩

/-! ## The request an axis command starts -/

/-- A request body with its CRC, low byte first (R40, R103). -/
def withCrc (p : CrcPreset) (body : List Byte) : List Byte := body ++ crcBytes (crc16 p body)

/-- The request `body` to `slave` stands in the frame buffer, as attempt 1. -/
def withRequest (slave : Byte) (body : List Byte) (len : BitVec 4) (fc : Byte) (s : State) : State :=
  { s with
    activeSlave := slave, frame := overwrite (withCrc s.cfg.crcPreset body) s.frame, flen := len, fc := fc, att := 1 }

/-- R102, R103, R104: a builder on the selected slave starts attempt 1 of its request. -/
theorem sendRequest_muxSelect (slave : Byte) (body : List Byte) (len : BitVec 4) (fc : Byte) (s : State) :
    sendRequest body len fc (muxSelect slave s) = attemptStarts (withRequest slave body len fc s) := by
  rw [sendRequest_eq, startAttempt_eq_attemptStarts]
  rfl

section

variable {p : CrcPreset} {body : List Byte}

theorem withCrc_length : (withCrc p body).length = body.length + 2 := by simp [withCrc, crcBytes]

variable {n : Nat} (buf : Vector Byte n) (h : body.length + 2 ≤ n)
include h

/-- A request begins with its body. -/
theorem overwrite_withCrc_body : (overwrite (withCrc p body) buf).toList.take body.length = body := by
  have hall := overwrite_take (withCrc p body) buf (withCrc_length.trans_le h)
  rw [withCrc_length] at hall
  simpa [List.take_take, withCrc] using congrArg (List.take body.length) hall

/-- Then the CRC of that body follows. -/
theorem overwrite_withCrc_crc :
    ((overwrite (withCrc p body) buf).toList.drop body.length).take 2 =
      crcBytes (crc16 p ((overwrite (withCrc p body) buf).toList.take body.length)) := by
  have hall := overwrite_take (withCrc p body) buf (withCrc_length.trans_le h)
  rw [withCrc_length] at hall
  rw [overwrite_withCrc_body buf h]
  simpa [List.drop_take, withCrc] using congrArg (List.drop body.length) hall

/-- The bytes above the CRC keep their value (R26, log 12). -/
theorem overwrite_withCrc_above :
    (overwrite (withCrc p body) buf).toList.drop (body.length + 2) = buf.toList.drop (body.length + 2) := by
  rw [← withCrc_length (p := p), overwrite_drop _ _ (withCrc_length.trans_le h)]

end

section

variable {s : State}

/-- R115, where it is not refused. -/
theorem exec_setRaSpeed (v : Half) (hopen : s.linkOpen = true) (haddr : s.raAddr ≠ 0) :
    exec (.setRaSpeed v) s = .next (attemptStarts (withRequest s.raAddr (wsrBody s.raAddr v) 8 fcWsr s)) := by
  calc exec (.setRaSpeed v) s
    _ = .next (axisCommand s.raAddr 1 (buildWsr v) s) := rfl
    _ = .next (buildWsr v (muxSelect s.raAddr s)) := congrArg _ (axisCommand_of_configured hopen haddr)
    _ = _ := congrArg _ (sendRequest_muxSelect ..)

/-- R116, where it is not refused. -/
theorem exec_setDecSpeed (v d : Half) (hopen : s.linkOpen = true) (haddr : s.decAddr ≠ 0) :
    exec (.setDecSpeed v d) s = .next (attemptStarts (withRequest s.decAddr (wmrBody s.decAddr d v) 13 fcWmr s)) := by
  calc exec (.setDecSpeed v d) s
    _ = .next (axisCommand s.decAddr 2 (buildWmr d v) s) := rfl
    _ = .next (buildWmr d v (muxSelect s.decAddr s)) := congrArg _ (axisCommand_of_configured hopen haddr)
    _ = _ := congrArg _ (sendRequest_muxSelect ..)

/-- R117 is R116 with zero operands, refusals included. -/
theorem exec_stopDec : exec .stopDec s = exec (.setDecSpeed 0 0) s := rfl

end

/-- Settles O26: the frame of the request is read back part by part. -/
theorem setRaSpeedStartsTheWrite : Obligations.SetRaSpeedStartsTheWrite := by
  intro s v hopen haddr
  have hfit : (wsrBody s.raAddr v).length + 2 ≤ 13 := show 8 ≤ 13 by decide
  exact ⟨_, exec_setRaSpeed v hopen haddr, overwrite_withCrc_body s.frame hfit, overwrite_withCrc_crc s.frame hfit,
    overwrite_withCrc_above s.frame hfit, rfl⟩

/-- Settles O27: the request fills the frame buffer, so that nothing stands above its CRC. -/
theorem setDecSpeedStartsTheWrite : Obligations.SetDecSpeedStartsTheWrite := by
  intro s v d hopen haddr
  have hfit : (wmrBody s.decAddr d v).length + 2 ≤ 13 := show 13 ≤ 13 by decide
  have hend (f : Vector Byte 13) : (f.toList.drop 11).take 2 = f.toList.drop 11 := List.take_of_length_le (by simp)
  exact ⟨_, exec_setDecSpeed v d hopen haddr, overwrite_withCrc_body s.frame hfit,
    (hend _).symm.trans (overwrite_withCrc_crc s.frame hfit), rfl⟩

/-- Settles O28: a step of SET_DEC_SPEED always goes on, and its frame is that of O27 with zero operands. -/
theorem stopDecIsZeroDirectionZeroSpeed : Obligations.StopDecIsZeroDirectionZeroSpeed := by
  intro s
  refine ⟨_, exec_stopDec, rfl, fun hopen haddr => ?_⟩
  obtain ⟨t, hexec, hbody, -, hstart⟩ := setDecSpeedStartsTheWrite s 0 0 hopen haddr
  obtain rfl : axisCommand s.decAddr 2 (buildWmr 0 0) s = t := Host.Outcome.next.inj hexec
  refine ⟨?_, by rw [hstart]; rfl⟩
  have hmiddle := congrArg (List.drop 1) hbody
  rw [List.drop_take] at hmiddle
  exact hmiddle

end Sys2Proof.Machine

/-! PROOFS. A SET_RA_SPEED command from its acceptance to its success (O43): the queueing of a response, the attempt it
answers, and the two steps before that attempt. -/

namespace Sys2Proof.Machine

open Sys2Proof.Safety Sys2Proof.Claims

/-! ## A response is queued -/

/-- The PHY delivers the bytes `bs` without error. -/
def delivered (bs : List Byte) : List Event := bs.map (fun b => .rxByte b false)

/-- R80: bytes for which the queue has room are queued in their order. -/
theorem run_delivered {s : State} {bs : List Byte} {rest : List Event}
    (hroom : s.rxq.length + bs.length ≤ s.cfg.rxqDepth) (hin : s.inputs = delivered bs ++ rest) :
    run bs.length s = .next { s with inputs := rest, rxq := s.rxq ++ good bs } := by
  induction bs generalizing s with
  | nil =>
    cases s
    simp_all [run, delivered, good]
  | cons b bs ih =>
    rw [List.length_cons] at hroom
    have hfirst : step s =
        .next { s with inputs := delivered bs ++ rest, rxq := s.rxq ++ [{ byte := b, err := false }] } := by
      rw [receivedByteIsQueuedOrLost s b false (delivered bs ++ rest) hin, if_pos (by omega)]
    rw [List.length_cons, run_succ_of_step hfirst, ih (by simp; omega) rfl]
    simp [good]

/-! ## An attempt that is answered -/

/-- The response R67 and R68 expect: bytes 0 to 5 of the request, with their own CRC. -/
def echo (s : State) : List Byte := withCrc s.cfg.crcPreset (s.frame.toList.take 6)

theorem echo_length (s : State) : (echo s).length = 8 := by simp [echo, withCrc_length]

/-- The attempt has sent its frame, and `q` has come in. -/
def awaiting (q : List RxEntry) (rest : List Event) (s : State) : State :=
  { attemptStarts s with
    inputs := rest, rxq := q, seq := .mbRx, idx := s.flen
    outputs := (attemptStarts s).outputs ++ (frameBytes s).map Output.tx
    wire := s.wire ++ frameBytes s }

/-- Then a response in `rxb` has passed every check. -/
def answered (rest : List Event) (rxb : Vector Byte 8) (s : State) : State :=
  succeeded { awaiting [] rest s with rxb := rxb, rxn := 8, rxl := 8 }

theorem answered_wire (rest : List Event) (rxb : Vector Byte 8) (s : State) :
    (answered rest rxb s).wire = s.wire ++ frameBytes s := rfl

theorem answered_outputs (rest : List Event) (rxb : Vector Byte 8) (s : State) :
    (answered rest rxb s).outputs =
      s.outputs ++ (if s.debugEn then [.trace (frameBytes s)] else []) ++ (frameBytes s).map Output.tx ++
        [.done true] := rfl

/-- R105 to R109: a frame that is acknowledged byte by byte and then echoed succeeds. -/
theorem run_answered {s : State} {rest : List Event} (hp : s.txPend = false) (hq : s.rxq = [])
    (hroom : 8 ≤ s.cfg.rxqDepth) (hslave : s.frame[0] = s.activeSlave) (hfc : s.frame[1] = s.fc) (hpos : s.flen ≠ 0)
    (h13 : s.flen.toNat ≤ 13)
    (hin : s.inputs = acks s.flen.toNat ++ (delivered (echo s) ++ (List.replicate 8 .internal ++ rest))) :
    ∃ rxb, run (2 * s.flen.toNat + (8 + 8)) (attemptStarts s) = .next (answered rest rxb s) := by
  have hsent : run (2 * s.flen.toNat) (attemptStarts s) =
      .next (awaiting s.rxq (delivered (echo s) ++ (List.replicate 8 .internal ++ rest)) s) :=
    frameGoesOutWholeAndInOrder (attemptStarts s) _ (.inl rfl) hp rfl hpos h13 hin
  have hqueued : run 8 (awaiting [] (delivered (echo s) ++ (List.replicate 8 .internal ++ rest)) s) =
      .next (awaiting (good (echo s)) (List.replicate 8 .internal ++ rest) s) :=
    echo_length s ▸
      run_delivered (s := awaiting [] _ s) ((Nat.zero_add _).trans_le ((echo_length s).trans_le hroom)) rfl
  obtain ⟨t, hdone, -, ht⟩ := expectedResponseSucceeds (awaiting (good (echo s)) (List.replicate 8 .internal ++ rest) s)
    [] rest rfl rfl rfl rfl hslave hfc (List.append_nil _).symm rfl
  refine ⟨t.rxb, ?_⟩
  rw [run_add hsent, hq, run_add hqueued, hdone, ht]
  rfl

/-! ## The command -/

/-- R57, R59: the low half of the second word is the speed. -/
theorem decode_setRaSpeed (w1 : Word) : decode (.command 0x00000010 w1) = .instr (.setRaSpeed (w1.extractLsb' 0 16)) :=
  decodeCommand_eq_instr_iff.mpr ⟨.setRaSpeed, rfl, rfl, rfl⟩

/-- R65: the two bytes of the speed are the low bytes of the second word. -/
theorem fieldBytes_low_half (w : Word) : fieldBytes (w.extractLsb' 0 16) = [w.extractLsb' 8 8, w.extractLsb' 0 8] := by
  have hhi : hi8 (w.extractLsb' 0 16) = w.extractLsb' 8 8 := by
    apply BitVec.eq_of_getLsbD_eq
    intro i hi
    simp [hi8, hi]
  have hlo : lo8 (w.extractLsb' 0 16) = w.extractLsb' 0 8 := by
    apply BitVec.eq_of_getLsbD_eq
    intro i hi
    simp [lo8, hi]
  rw [fieldBytes, hhi, hlo]

/-- An accepted SET_RA_SPEED has its request in the frame buffer. -/
def raRequest (w1 : Word) (rest : List Event) (s : State) : State :=
  withRequest s.raAddr (wsrBody s.raAddr (w1.extractLsb' 0 16)) 8 fcWsr
    (acceptCommand 0x00000010 w1 { s with inputs := rest })

/-- R81, R82, R115: on an open link with RA_ADDR configured the command is accepted, and attempt 1 starts. -/
theorem run_raRequest {s : State} {w1 : Word} {rest : List Event} (hs : s.seq = .idle) (hopen : s.linkOpen = true)
    (haddr : s.raAddr ≠ 0) (hin : s.inputs = .hostCmd 0x00000010 w1 :: .internal :: rest) :
    run 2 s = .next (attemptStarts (raRequest w1 rest s)) := by
  have haccept : step s = .next (acceptCommand 0x00000010 w1 { s with inputs := .internal :: rest }) :=
    idleBlockAcceptsCommand s _ w1 _ hs hin
  have hdispatch : step (acceptCommand 0x00000010 w1 { s with inputs := .internal :: rest }) =
      .next (attemptStarts (raRequest w1 rest s)) := by
    rw [stepRunsTheDecodedInstruction _ .internal rest _ _ (nextEvent_head rfl rfl) rfl (decode_setRaSpeed w1)]
    exact exec_setRaSpeed _ hopen haddr
  rw [run_succ_of_step haccept, run_succ_of_step hdispatch]
  rfl

section

variable {s : State} {w1 : Word} {rest : List Event} {bs : List Byte}
variable (hbs : bs = [s.raAddr, 0x06, 0xF0, 0x0B, w1.extractLsb' 8 8, w1.extractLsb' 0 8] ++
  crcBytes (crc16 s.cfg.crcPreset [s.raAddr, 0x06, 0xF0, 0x0B, w1.extractLsb' 8 8, w1.extractLsb' 0 8]))
include hbs

/-- R65: the bytes of the request, written out. -/
theorem withCrc_wsrBody_eq : withCrc s.cfg.crcPreset (wsrBody s.raAddr (w1.extractLsb' 0 16)) = bs := by
  rw [hbs, wsrBody, fieldBytes_low_half]
  rfl

theorem frameBytes_raRequest : frameBytes (raRequest w1 rest s) = bs := by
  rw [← withCrc_wsrBody_eq hbs]
  exact frameBytes_of_overwrite rfl rfl (show 8 ≤ 13 by decide)

/-- R67: the expected response is the request itself. -/
theorem echo_raRequest : echo (raRequest w1 rest s) = bs := by
  rw [← withCrc_wsrBody_eq hbs]
  exact congrArg (withCrc s.cfg.crcPreset)
    (overwrite_withCrc_body (body := wsrBody s.raAddr _) s.frame (show 8 ≤ 13 by decide))

end

/-- Settles O43: two steps start the request, and the other thirty-two are an attempt that is answered. -/
theorem raSpeedCommandRunsToSuccess : Obligations.RaSpeedCommandRunsToSuccess := by
  intro s w1 bs rest hs hp hopen haddr hq hroom hbs hin
  obtain ⟨evs, hevs⟩ : ∃ evs, acks 8 ++ (delivered bs ++ (List.replicate 8 Event.internal ++ rest)) = evs := ⟨_, rfl⟩
  have hcommand : s.inputs = .hostCmd 0x00000010 w1 :: .internal :: evs := by
    rw [hin, ← hevs]
    simp [delivered]
  have hframe := frameBytes_raRequest (rest := evs) hbs
  have hecho := echo_raRequest (rest := evs) hbs
  obtain ⟨rxb, hanswer⟩ := run_answered (s := raRequest w1 evs s) (rest := rest) hp hq hroom rfl rfl
    (show 8#4 ≠ 0 by decide) (show 8 ≤ 13 by decide) (by rw [hecho]; exact hevs.symm)
  have hrun := (run_add (run_raRequest hs hopen haddr hcommand)).trans hanswer
  refine ⟨_, hrun, rfl, rfl, rfl, rfl, rfl, rfl, rfl, rfl, rfl, ?_, ?_⟩
  · rw [answered_wire, hframe]
    rfl
  · rw [answered_outputs, hframe]
    rfl

end Sys2Proof.Machine

/-! PROOFS. The relay commands (O44, O45), their short write (O46), their settle (O47), and the digits of the module
address in their frame (O24). -/

namespace Sys2Proof.Machine

open Sys2Proof.Safety Sys2Proof.Claims

/-! ## The shape of a relay command -/

section

variable {s : State} {ch : BitVec 2} {st : Bool}

/-- R121, R126: SET_RELAY and the six wrappers are one operation, on their own channel and state. -/
theorem exec_of_relayOperands {i : Instr} (h : relayOperands i s = some (ch, st)) :
    exec i s = .next (relaySend ch st s) := by
  cases i with
  | setRelay | powerOn | powerOff | dplusOn | dplusOff | dminusOn | dminusOff =>
    cases h
    rfl
  | _ => cases h

/-- R120: the link is looked at first. -/
theorem relaySend_of_closed (hclosed : s.linkOpen = false) :
    relaySend ch st s = failed (errWord (opcodeOf s) 0 0x30 4) s :=
  (if_pos hclosed).trans (raise_eq_failed .usage .linkNotOpen 0 s)

/-- R120: then the configuration of the relay. -/
theorem relaySend_of_unconfigured (hopen : s.linkOpen = true) (hunconf : s.relayValid = false) :
    relaySend ch st s = failed (errWord (opcodeOf s) 0 0x34 4) s := by
  rw [relaySend, if_neg (by simp [hopen]), if_pos hunconf]
  exact raise_eq_failed .usage .relayUnconfigured 0 s

/-- R120: then the channel, where an open link and a configured relay leave nothing else to refuse. -/
theorem relaySend_of_configured (hopen : s.linkOpen = true) (hconf : s.relayValid = true) :
    relaySend ch st s = if ch = 3 then failed (errWord (opcodeOf s) 0 0x35 4) s else startRelay ch st s := by
  rw [relaySend, if_neg (by simp [hopen]), if_neg (by simp [hconf])]
  exact if_congr channelMax_lt_iff (raise_eq_failed .usage .channelOutOfRange 0 s) rfl

end

/-- Settles O44: the three refusals of the shape. -/
theorem relayCommandPreconditions : Obligations.RelayCommandPreconditions := by
  intro i s ch st hi
  rw [exec_of_relayOperands hi]
  refine ⟨fun hclosed => ?_, fun hopen hunconf => ?_, fun hopen hconf hch => ?_⟩
  · rw [relaySend_of_closed hclosed]
  · rw [relaySend_of_unconfigured hopen hunconf]
  · rw [relaySend_of_configured hopen hconf, if_pos hch]

/-! ## The frame of a relay command -/

/-- R71: the first eight bytes of the frame buffer are the frame, its state digit as R119 computes it. -/
theorem overwrite_adamBytes_take (hexHi hexLo : Byte) (ch : BitVec 2) (st : Bool) (buf : Vector Byte 13) :
    (overwrite (adamBytes hexHi hexLo ch st) buf).toList.take 8 =
      [0x23, hexHi, hexLo, 0x31, 0x30 + ch.setWidth 8, 0x30, 0x30 + (BitVec.ofBool st).setWidth 8, 0x0D] := by
  rw [← stateDigit_eq]
  exact overwrite_take (adamBytes hexHi hexLo ch st) buf (show 8 ≤ 13 by decide)

/-- The bytes above the frame keep their value (R26, log 12). -/
theorem overwrite_adamBytes_drop (hexHi hexLo : Byte) (ch : BitVec 2) (st : Bool) (buf : Vector Byte 13) :
    (overwrite (adamBytes hexHi hexLo ch st) buf).toList.drop 8 = buf.toList.drop 8 :=
  overwrite_drop (adamBytes hexHi hexLo ch st) buf (show 8 ≤ 13 by decide)

/-- Settles O45: nothing is refused, and the bytes built are those of R71. -/
theorem relayCommandStartsItsFrame : Obligations.RelayCommandStartsItsFrame := by
  intro i s ch st hi hopen hconf hch
  rw [exec_of_relayOperands hi, relaySend_of_configured hopen hconf, if_neg hch, startRelay_eq]
  exact ⟨_, rfl, overwrite_adamBytes_take s.hexHi s.hexLo ch st s.frame,
    overwrite_adamBytes_drop s.hexHi s.hexLo ch st s.frame, rfl⟩

/-- Settles O24: sixteen digits. -/
theorem hexDigitsAreUppercase : Obligations.HexDigitsAreUppercase := by
  unfold Obligations.HexDigitsAreUppercase
  decide

/-! ## The short write -/

/-- Settles O46: in RL_TX the failure of a byte is that of the command. -/
theorem shortWriteFailsAtOnce : Obligations.ShortWriteFailsAtOnce := by
  intro s rest hin hp hs
  calc step s
    _ = .next (handleTxFail { s with inputs := rest }) := step_head hin hp
    _ = .next (rlTxFail { s with inputs := rest }) := congrArg Host.Outcome.next (handleTxFail_rlTx hs)
    _ = _ := congrArg Host.Outcome.next (raise_eq_failed .shortWrite .txShort _ _)

/-! ## The settle -/

/-- R125: the flush and the success at the end of a settle, written out (R51, R83). -/
theorem completeOk_flush (s : State) :
    completeOk (flush s) = { s with
      rxq := [], rxqOvf := false, seq := .idle, done := true, ok := true
      outputs := s.outputs ++ [.flush, .done true] } := by
  simp [completeOk, flush, emit]

section

variable {s : State} {rest : List Event}

/-- The step of a tick in RL_SETTLE (R125). -/
theorem step_tick_rlSettle (hs : s.seq = .rlSettle) (hin : s.inputs = .tick :: rest) :
    step s = .next
      (if s.cnt + 1 = 250 then completeOk (flush { s with inputs := rest, cnt := 250 })
       else { s with inputs := rest, cnt := s.cnt + 1 }) := by
  rw [step_tick hin, handleTick_rlSettle (s := { s with inputs := rest }) hs]
  obtain ⟨hc, h⟩ | ⟨hc, h⟩ := settleTick_cases { s with inputs := rest }
  · rw [h, if_pos hc, hc]
  · rw [h, if_neg hc]

/-- Short of the 250th a tick of a settle only counts. -/
theorem step_counted_rlSettle {n : Nat} (hs : s.seq = .rlSettle) (hn : n < 249) :
    step (counted n (.tick :: rest) s) = .next (counted (n + 1) rest s) := by
  have hmore : (counted n (.tick :: rest) s).cnt + 1 ≠ 250 := by
    simp only [counted]
    bv_omega
  rw [step_tick_rlSettle (s := counted n (.tick :: rest) s) hs rfl, if_neg hmore]
  simp [counted, BitVec.ofNat_add]

/-- The 250th tick flushes and ends the command. -/
theorem step_counted_rlSettle_last (hs : s.seq = .rlSettle) :
    step (counted 249 (.tick :: rest) s) = .next (completeOk (flush { s with inputs := rest, cnt := 250 })) :=
  step_tick_rlSettle (s := counted 249 (.tick :: rest) s) hs rfl

end

/-- Settles O47: a settle is a wait of 250 ticks. -/
theorem settleLastsItsTicksThenFlushes : Obligations.SettleLastsItsTicksThenFlushes := by
  refine ⟨fun s rest hs hin => ?_, fun s rest hs hcnt hin => ?_⟩
  · rw [step_tick_rlSettle hs hin, completeOk_flush]
  · have hend := step_counted_rlSettle_last (rest := rest) hs
    rw [completeOk_flush] at hend
    exact run_wait (N := 249) (fun n hn rest => step_counted_rlSettle hs hn) hcnt hin hend

end Sys2Proof.Machine

/-! PROOFS. No failure is fatal (O50, O51, R133): every response to an event goes on in a state with the invariant,
and so does every run from reset. What a dispatch step that fails leaves (O58, R131). -/

namespace Sys2Proof.Machine

open Sys2Proof.Safety Sys2Proof.Claims

/-! ## Every response goes on -/

/-- A command that is run is never refused by the model: each arm of `exec` for a command gives it a meaning. -/
theorem exec_command_goesOn (o : Opcode) (w0 w1 : Word) (s : State) : ∃ t, exec (instrOf o w0 w1) s = .next t := by
  cases o <;> exact ⟨_, rfl⟩

/-- R82: a dispatch step goes on, whatever the latches hold. -/
theorem dispatchStep_goesOn (s : State) : ∃ t, dispatchStep s = .next t := by
  obtain ⟨-, hd⟩ | ⟨o, -, ⟨n, -, hd⟩ | ⟨-, hd⟩⟩ := dispatchStep_cases s
  · exact ⟨_, hd⟩
  · exact ⟨_, hd⟩
  · rw [hd]
    exact exec_command_goesOn o s.cmdLatch s.argLatch s

section

variable {s : State}

/-- A frame in use fits the frame buffer: each kind of frame fixes `FLEN` (R26). -/
theorem flen_le_of_frameInUse (h : frameInUse s = true) : s.flen ≤ 13 := by
  unfold frameInUse at h
  split at h
  case h_4 => cases h
  all_goals
    simp only [Bool.and_eq_true, decide_eq_true_eq] at h
    simp [h]

/-- R16, R26: while the block transmits, `IDX` is the index of a byte of the frame (log 8). -/
theorem frameBytes_at_idx (h : Inv s) (hs : s.seq = .mbTx ∨ s.seq = .rlTx) :
    ∃ b, (frameBytes s)[s.idx.toNat]? = some b := by
  obtain ⟨-, hidx, hframe, -⟩ := h.tx
  have hlt : s.idx < s.flen := hidx hs
  obtain ⟨huse, -⟩ := hframe (hs.imp_left .inl)
  have hle : s.flen ≤ 13 := flen_le_of_frameInUse huse
  have hlen : s.idx.toNat < (frameBytes s).length := by
    simp only [frameBytes, List.length_take, Vector.length_toList]
    bv_omega
  exact ⟨_, List.getElem?_eq_getElem hlen⟩

/-- R105, R122: the next byte is offered, or one is outstanding and nothing happens. -/
theorem transmitStep_goesOn (h : Inv s) (hs : s.seq = .mbTx ∨ s.seq = .rlTx) : ∃ t, transmitStep s = .next t := by
  obtain ⟨b, hb⟩ := frameBytes_at_idx h hs
  rw [transmitStep_eq]
  by_cases hmay : mayTransmit s = true
  · exact ⟨_, transmit_of_getElem? hmay hb⟩
  · exact ⟨s, if_neg hmay⟩

/-- R108, R109: a response whose length is one R27 allows is checked, if it is whole (log 9). -/
theorem checkWhole_goesOn (hl : s.rxl = 0 ∨ s.rxl = 5 ∨ s.rxl = 8) : ∃ t, checkWhole s = .next t := by
  by_cases hwhole : s.rxl ≠ 0 ∧ s.rxn = s.rxl
  · have hL : s.rxl.toNat = 5 ∨ s.rxl.toNat = 8 :=
      (hl.resolve_left hwhole.1).imp (congrArg BitVec.toNat) (congrArg BitVec.toNat)
    exact ⟨_, (if_pos hwhole).trans (dif_pos hL)⟩
  · exact ⟨s, checkWhole_of_open hwhole⟩

/-- R108: a stored byte is looked at; byte 1 gives a length R27 allows. -/
theorem byteStored_goesOn (b : Byte) (hl : s.rxl = 0 ∨ s.rxl = 5 ∨ s.rxl = 8) : ∃ t, byteStored b s = .next t := by
  by_cases h2 : s.rxn = 2
  · exact ⟨_, byteStored_header h2⟩
  · rw [byteStored_of_rxn_ne h2]
    exact checkWhole_goesOn hl

/-- R108: a response that is still open has room for its next byte (log 9). -/
theorem mbReceive_goesOn (hopen : responseOpen s.rxn s.rxl) : ∃ t, mbReceive s = .next t := by
  have hroom : s.rxn.toNat < 8 := by
    obtain ⟨-, hn⟩ | ⟨hl | hl, -, hn⟩ := hopen
    · bv_omega
    · bv_omega
    · bv_omega
  have hlength : s.rxl = 0 ∨ s.rxl = 5 ∨ s.rxl = 8 := hopen.imp (·.1) (·.1)
  cases hq : s.rxq with
  | nil => exact ⟨s, by simp [mbReceive, hq]⟩
  | cons e more =>
    by_cases herr : e.err = true ∨ s.rxqOvf = true
    · exact ⟨_, mbReceive_of_error hq herr⟩
    · obtain ⟨b, err⟩ := e
      obtain ⟨hgood, hovf⟩ : err = false ∧ s.rxqOvf = false := by simpa using herr
      subst hgood
      rw [mbReceive_of_good hq hovf hroom]
      exact byteStored_goesOn b hlength

/-- R77: what `Internal` does in each state of the sequencer. -/
theorem handleInternal_goesOn (h : Inv s) : ∃ t, handleInternal s = .next t := by
  obtain ⟨-, hresp, -⟩ := h.rx
  cases hs : s.seq with
  | dispatch => exact handleInternal_dispatch hs ▸ dispatchStep_goesOn s
  | mbTx => exact handleInternal_mbTx hs ▸ transmitStep_goesOn h (.inl hs)
  | rlTx => exact handleInternal_rlTx hs ▸ transmitStep_goesOn h (.inr hs)
  | mbRx => exact handleInternal_mbRx hs ▸ mbReceive_goesOn (hresp hs)
  | idle | openWait | mbBackoff | rlSettle => exact ⟨s, by simp [handleInternal, hs]⟩

/-- R75, R133: the response to every event but `Internal` is total, and the invariant makes that of `Internal` so. -/
theorem handle_goesOn (e : Event) (h : Inv s) : ∃ t, handle e s = .next t := by
  cases e with
  | internal => exact handleInternal_goesOn h
  | _ => exact ⟨_, rfl⟩

end

/-- Settles O50: the block waits, or responds to the event taken. -/
theorem invariantStatesGoOn : Obligations.InvariantStatesGoOn := by
  intro s h
  cases hn : nextEvent s with
  | none => exact ⟨s, step_of_nextEvent_none hn⟩
  | some taken =>
    obtain ⟨e, rest⟩ := taken
    obtain ⟨t, ht⟩ := handle_goesOn e (inv_inputs (es := rest) h)
    exact ⟨t, (step_of_nextEvent hn).trans ht⟩

/-! ## Every run goes on -/

/-- A run from a state with the invariant reaches a state with the invariant, however long it is. -/
theorem run_of_inv (n : Nat) {s : State} (h : Inv s) : ∃ t, run n s = .next t ∧ Inv t := by
  induction n generalizing s with
  | zero => exact ⟨s, rfl, h⟩
  | succ n ih =>
    obtain ⟨u, hstep⟩ := invariantStatesGoOn s h
    rw [run_succ_of_step hstep]
    exact ih (stepKeepsInvariant s u h hstep)

/-- At rest, the invariant asks of the parameters only that they are legal and that RXQ is within its depth. -/
theorem standing_withCfg {s : State} {c : Config} (h : Standing (atRest s)) (hc : c.wf = true)
    (hq : s.rxq.length ≤ c.rxqDepth) : Standing (atRest { s with cfg := c }) :=
  { h with params := hc, queue := hq }

/-- R146, with the suggested parameters: every reset value is a literal. -/
theorem inv_reset : Inv State.reset := by
  constructor <;> decide

/-- R6, R146: a block with legal parameters has the invariant after reset, as one with the suggested parameters has. -/
theorem inv_resetWith {c : Config} (h : c.wf = true) : Inv (State.resetWith c) :=
  inv_of_idle (standing_withCfg (standing_of_inv inv_reset) h (Nat.zero_le _)) rfl rfl

/-- Settles O51: reset meets the invariant, and the events offered are no part of it. -/
theorem everyRunFromResetIsSafe : Obligations.EveryRunFromResetIsSafe :=
  fun _ _ n hc => run_of_inv n (inv_inputs (inv_resetWith hc))

/-! ## A dispatch step that fails -/

/-- A command that is performed completes with OK, or leaves the block busy (R82, R83). -/
theorem Performs.ok_or_busy {s t : State} {i : Instr} (h : Performs s i t) : t.ok = true ∨ t.seq ≠ .idle := by
  cases h with
  | linkClose | linkCloseAgain | setDebug | setRecovery | cfgAxisAddr | cfgRelay => exact .inl rfl
  | linkOpen | setRaSpeed | setDecSpeed | stopDec | relay => exact .inr nofun

/-- R130, R131: a command that is refused leaves its state failed, with the error word it wrote. -/
theorem Refused.eq_failed {s t : State} (h : Refused s t) : t = failed t.lastErr s := by
  obtain ⟨c, d, rfl⟩ := h
  exact raise_eq_failed (causeClass c) c d s

/-- Settles O58: a dispatch step that ends without OK is one that refuses its command. -/
theorem refusalsChangeNothingElse : Obligations.RefusalsChangeNothingElse := by
  intro s t rest hs hn hstep hidle hfail
  rw [step_dispatch hs hn] at hstep
  obtain hrefused | ⟨i, -, hp⟩ := dispatchStep_next hstep
  · exact hrefused.eq_failed
  · obtain hok | hbusy := hp.ok_or_busy
    · simp [hfail] at hok
    · exact absurd hidle hbusy

end Sys2Proof.Machine

/-! PROOFS. Reset (R146): the reset values, what the host reads of them, and the invariant they have (R6). Settles O15
and O49. -/

namespace Sys2Proof.Machine

/-- R33: no register shows what lies outside the block, so the host reads the same after every reset (log 11). -/
theorem readReg_resetBlock (idx : Byte) (s : State) : readReg idx (resetBlock s) = readReg idx State.reset := rfl

/-- R146 through the read map (R33): of the reset values only the relay's channels and its two `0` digits are not zero. -/
theorem readReg_reset (idx : Byte) :
    readReg idx State.reset = if idx = 7 then 0x00001800 else if idx = 8 then 0x00003030 else 0 := by
  by_cases habove : 11 ≤ idx
  · have h7 : idx ≠ 7 := by bv_omega
    have h8 : idx ≠ 8 := by bv_omega
    rw [readReg_above_map _ habove, if_neg h7, if_neg h8]
  · revert idx
    decide

/-- Settles O15: a reset is enabled in every state, and `resetBlock` writes the values of R146. -/
theorem resetGivesResetValues : Obligations.ResetGivesResetValues := by
  intro s rest hin
  have hstep : step s = .next (resetBlock { s with inputs := rest }) := step_head hin rfl
  exact ⟨_, hstep, rfl, fun idx => (readReg_resetBlock idx _).trans (readReg_reset idx)⟩

/-- Settles O49: legal parameters are all the invariant asks of a block that has been reset. -/
theorem resetHasInvariant : Obligations.ResetHasInvariant := fun _ hc => inv_resetWith hc

end Sys2Proof.Machine
